-- ==== Sys2Proof/Word.lean ====
section
/-! DEFINITION. The machine words of the CN-40, its timers, and tables of a fixed size. -/

namespace Sys2Proof

/-- A character's eight data bits. -/
abbrev Byte := BitVec 8

/-- A 16-bit value: a configuration or status item, a check, a current. -/
abbrev Word := BitVec 16

/-- The 32-bit identity fixed at manufacture (R18). -/
abbrev Identity := BitVec 32

/-- A timer: `none` is stopped (or expired), `some d` is running and expires when the clock reads `d` ms
(file 00, Conventions, Time). DESIGN CHOICE: log 5. -/
abbrev Timer := Option Nat

/-- A table of exactly `n` entries. The length stands in the type, so that no entry can go missing. -/
structure Tab (α : Type) (n : Nat) where
  list : List α
  size : list.length = n
deriving DecidableEq, Repr

namespace Tab

variable {α : Type} {n : Nat}

/-- The entry at index `i`, or `d` where the table has no such index. -/
def getD (t : Tab α n) (i : Nat) (d : α) : α := t.list.getD i d

/-- The table with `x` at index `i`; unchanged where the table has no such index. -/
def set (t : Tab α n) (i : Nat) (x : α) : Tab α n := ⟨t.list.set i x, by simp [t.size]⟩

/-- `f` of every entry. -/
def map {β : Type} (f : α → β) (t : Tab α n) : Tab β n := ⟨t.list.map f, by simp [t.size]⟩

/-- `n` copies of `x`. -/
def fill (n : Nat) (x : α) : Tab α n := ⟨List.replicate n x, by simp⟩

/-- The first `k` entries kept, the others `x`. -/
def keep (t : Tab α n) (k : Nat) (x : α) : Tab α n :=
  ⟨t.list.take k ++ List.replicate (n - k) x, by simp [t.size]; omega⟩

/-- `xs` written over the entries from index `i` on. -/
def setFrom (t : Tab α n) (i : Nat) : List α → Tab α n
  | [] => t
  | x :: xs => (t.set i x).setFrom (i + 1) xs

end Tab

end Sys2Proof
end

