-- ==== Sys2Proof/Syntax.lean ====
section
/-! DEFINITION. The commands of the CN-40: one constructor of `Instr` for each row of spec/opcode_table.json, and the
operands they carry. -/

namespace Sys2Proof

/-- The four line rates (file 01, Line rate). -/
inductive LineRate where
  | bps19200 | bps38400 | bps76800 | bps153600
deriving DecidableEq, Repr

/-- The two coupler ends of the coach. -/
inductive End where
  | e1 | e2
deriving DecidableEq, Repr

/-- The opposite end. -/
def End.other : End → End
  | .e1 => .e2
  | .e2 => .e1

/-- The three line ports: PU-E1 and PU-E2, and PU-C. -/
inductive Port where
  | line (e : End)
  | cab
deriving DecidableEq, Repr

/-- The local sides, and the door channel of each. -/
inductive Side where
  | a | b
deriving DecidableEq, Repr

/-- The fifteen discrete inputs (file 10, Inputs). A leaf input is numbered 0..3 for LEAF_x1..LEAF_x4. -/
inductive Input where
  | cpl (e : End)
  | key
  | zsp
  | iso (c : Side)
  | leaf (c : Side) (n : Fin 4)
  | th
deriving DecidableEq, Repr

/-- The frame kinds (R17, Frame kinds). -/
inductive Kind where
  | idle | call | answer | tail | roster | confirm | survey | order | heatPass | heatSet | request | reply | leadStatus
deriving DecidableEq, Repr

/-- One character as it stands on the line (R1): eight data bits, the parity bit, and the stop bit (true at mark). -/
structure Character where
  data : Byte
  parity : Bool
  stop : Bool
deriving DecidableEq, Repr

/-- A frame as a port has assembled it (R17), less its kind, which the command names, and less the leading payload bytes
that the command fixes (a REQUEST's code). `flags` is the character "flags and hop". -/
structure LineFrame where
  flags : Byte
  dest : Byte
  src : Byte
  body : List Byte
  check : Word
deriving DecidableEq, Repr

/-- The commands. A line time is given in bit times at the rate the rule reckons by, a measured sync bit time in
hundredths of a microsecond. DESIGN CHOICE: log 10. -/
inductive Instr where
  -- the port units (file 01)
  | syncCharacter (p : Port) (bitTime : Nat) (c : Character)
  | syncError (p : Port) (bitTime : Nat) (c : Character)
  | parityError (p : Port) (c : Character)
  | lengthError (p : Port) (kind length : Byte) (count : Option Byte)
  | gapError (p : Port) (markBits : Nat)
  | checkError (p : Port) (k : Kind) (f : LineFrame)
  | returnToHunt (p : Port) (markBits : Nat)
  | lineBreak (p : Port) (spaceBits : Nat)
  | lineHoldWatchArmed
  | lineHoldReset
  | lockTimerExpiry
  | silenceTimerExpiry (e : End)
  | idleTimerExpiry (e : End)
  | transmitStart (p : Port) (markBits : Nat)
  | transmitComplete (p : Port)
  | collision (p : Port)
  -- frames (files 01 to 09)
  | idle (p : Port) (f : LineFrame)
  | call (p : Port) (f : LineFrame)
  | answer (p : Port) (f : LineFrame)
  | tail (p : Port) (f : LineFrame)
  | roster (p : Port) (f : LineFrame)
  | rosterSendList
  | confirm (p : Port) (f : LineFrame)
  | reflectedConfirm (p : Port) (f : LineFrame)
  | survey (p : Port) (f : LineFrame)
  | reflectedSurvey (p : Port) (f : LineFrame)
  | order (p : Port) (f : LineFrame)
  | heatPass (p : Port) (f : LineFrame)
  | reflectedHeatPass (p : Port) (f : LineFrame)
  | heatSet (p : Port) (f : LineFrame)
  | reply (p : Port) (f : LineFrame)
  | leadStatusDropped (p : Port) (f : LineFrame)
  -- requests (file 11)
  | badRequestCode (p : Port) (code : Byte) (f : LineFrame)
  | readItems (p : Port) (f : LineFrame)
  | writeItems (p : Port) (f : LineFrame)
  | readOrderTable (p : Port) (f : LineFrame)
  | readStageTable (p : Port) (f : LineFrame)
  | readConsistTable (p : Port) (f : LineFrame)
  | writeOrderTable (p : Port) (f : LineFrame)
  | writeStageTable (p : Port) (f : LineFrame)
  | readMap (p : Port) (f : LineFrame)
  | readEvents (p : Port) (f : LineFrame)
  | store (p : Port) (f : LineFrame)
  | storeTimerExpiry
  | nodeReset (p : Port) (f : LineFrame)
  | requestedReset
  | startRollCall (p : Port) (f : LineFrame)
  | stop (p : Port) (f : LineFrame)
  | heatSetup (p : Port) (f : LineFrame)
  -- timers of the consist unit, the lead machine and the sequencer (files 03, 04, 09)
  | callWindowExpiry
  | placingTimeout
  | leadLossExpiry
  | holdOffExpiry
  | surveyPeriodExpiry
  | heatingPeriodExpiry
  | passTimeout
  -- the door unit (file 06)
  | warnTimerExpiry (c : Side)
  | closeTimerExpiry (c : Side)
  | recycleTimerExpiry (c : Side)
  | chimeTimerExpiry
  | tonePhase
  -- the heating unit (file 08); a stage is numbered 0..3 for stages 1..4
  | supplySample (v : BitVec 12)
  | stageDue
  | minOffExpiry (stage : Fin 4)
  | holdoverExpiry
  -- local lines (file 10)
  | rawEdge (i : Input) (active : Bool)
  | stabilityTimerExpiry (i : Input)
  -- resets (file 11)
  | supplyReset
  | supplyAboveUpperThreshold
deriving DecidableEq, Repr

end Sys2Proof
end

