-- ==== Sys2Proof/Config.lean ====
section
/-! DEFINITION. What a particular part fixes and the spec leaves to it: the values State.reset takes for them. No value an
event produces is left open by the spec, so there is no free value. -/

namespace Sys2Proof.Config

/-- The identity State.reset gives the node: coach X's of the spec's own examples (file 04, R71). DESIGN CHOICE, unsafe:
log 1. Every meaning reads the identity from State. -/
def identity : Identity := 0x0104A2C7#32

/-- The raw level of every discrete input pin in State.reset. DESIGN CHOICE, unsafe: log 4. -/
def rawLevel : Bool := false

/-- The clock's reading in State.reset. DESIGN CHOICE, safe: log 5. -/
def clockStart : Nat := 0

end Sys2Proof.Config
end

