-- ==== Sys2Proof/Machine/Tables.lean ====
section
/-! DEFINITION. The tables the node holds, their factory defaults, the item table, and the spec's fixed times and limits. -/

namespace Sys2Proof.Machine

/-! ### Fixed numbers -/

/-- A transmit queue's slots (R13). -/
def queueSlots : Nat := 4
/-- The idle interval in ms (R12). -/
def idleInterval : Nat := 100
/-- The time of a store in ms (R188). -/
def storeTime : Nat := 80
/-- The period of the supply-sense samples in ms (R140). -/
def samplePeriod : Nat := 10
/-- A phase of the INTERRUPTED tone in ms (R124). -/
def tonePhaseTime : Nat := 500
/-- How long the cab line must be held at space for a LINE_HOLD reset, in ms (R10). -/
def lineHoldTime : Nat := 150
/-- The last position of a consist (R69). -/
def maxPosition : Nat := 32
/-- The sync character (R2). -/
def syncByte : Byte := 0x55#8
/-- Bit times in one character time (R1). -/
def charBits : Nat := 11

/-- A count that stays at 255 (file 00, Numbers). -/
def satInc (n : Nat) : Nat := min 255 (n + 1)

/-! ### Table entries -/

/-- A coach record (R18), field by field; `classFlags` and `leaves` are the packed characters at offsets 5 and 6. -/
structure CoachRecord where
  identity : Identity
  position : Byte
  classFlags : Byte
  leaves : Byte
  stages : Byte
  current : Word
deriving DecidableEq, Repr

/-- The local actions an order entry selects (R88), in the order of their codes (R21). -/
inductive Action where
  | ignore | release | close | doorReset | chime | heatCap
deriving DecidableEq, Repr

/-- An order-table entry (R88). `classes` has bit c set when the class set holds class c (R21). -/
structure OrderEntry where
  valid : Bool
  code : Byte
  classes : Word
  first : Byte
  last : Byte
  action : Action
  param : Byte
deriving DecidableEq, Repr

/-- A stage-table entry (R138). -/
structure StageEntry where
  enabled : Bool
  current : Byte
  doorHold : Bool
deriving DecidableEq, Repr

/-- The unused entry of the factory order table: entries 6..23 (R103). -/
def blankOrder : OrderEntry := ⟨false, 1, 0, 0, 32, .ignore, 0⟩

/-- The factory entry of a code: every class, any position (R103). -/
def plainOrder (code : Byte) (action : Action) (param : Byte) : OrderEntry :=
  ⟨true, code, 0xFFFF#16, 0, 32, action, param⟩

/-- The factory default order table (R103). -/
def factoryOrders : Tab OrderEntry 24 :=
  ⟨[plainOrder 1 .release 0, plainOrder 2 .close 0, plainOrder 3 .doorReset 0, plainOrder 4 .chime 30,
    plainOrder 5 .heatCap 0, plainOrder 6 .heatCap 4] ++ List.replicate 18 blankOrder, by simp⟩

/-- A stage that is not enabled (R138). -/
def blankStage : StageEntry := ⟨false, 0, false⟩

/-- The factory default stage table (R138). -/
def factoryStages : Tab StageEntry 4 := Tab.fill 4 blankStage

/-! ### The item table (file 11, Items) -/

/-- How a written value of a configuration item is treated (R183): clamped into a range, tested as a code 0..hi, masked
to the bits that name events, or tested as a report-map slot. -/
inductive ItemKind where
  | range (lo hi : Nat)
  | code (hi : Nat)
  | bits (mask : Word)
  | slot
deriving DecidableEq, Repr

/-- Items 0..10: the coach, the ends, the line and the consist. -/
def itemRows0 : List (ItemKind × Word) :=
  [(.range 0 15, 0), (.range 0 4, 2), (.range 0 4, 2), (.code 1, 0), (.code 1, 0), (.code 1, 0), (.code 1, 0),
   (.range 100 2000, 400), (.range 200 2000, 600), (.range 50 1000, 200), (.range 500 10000, 1500)]

/-- Items 11..19: the filter times and the doors. -/
def itemRows11 : List (ItemKind × Word) :=
  [(.range 50 1000, 200), (.range 10 500, 50), (.range 5 200, 20), (.range 500 10000, 2000),
   (.range 500 10000, 3000), (.range 2000 30000, 8000), (.range 500 10000, 2000), (.range 0 5, 3), (.code 1, 1)]

/-- Items 20..32: the heating. -/
def itemRows20 : List (ItemKind × Word) :=
  [(.range 500 4000, 1500), (.range 0 4095, 1200), (.range 0 4095, 1350), (.range 0 4, 1), (.range 0 4, 0),
   (.range 500 10000, 1000), (.range 0 60000, 5000), (.range 10 600, 90), (.range 100 2000, 500),
   (.range 50 5000, 250), (.range 0 4000, 600), (.range 0 4, 4), (.range 5 300, 30)]

/-- Items 33..50: the notice enables (R177's factory defaults in the bit order of R21) and the report map. -/
def itemRows33 : List (ItemKind × Word) :=
  [(.bits 0xFFFF#16, 0xF130#16), (.bits 0x000F#16, 0x000F#16)] ++ List.replicate 16 (.slot, 255)

/-- The configuration items 0..50 in order: how each is written, and its factory default. -/
def itemRows : List (ItemKind × Word) := itemRows0 ++ itemRows11 ++ itemRows20 ++ itemRows33

/-- The row of configuration item `n`. -/
def itemKind (n : Nat) : ItemKind := (itemRows.getD n (.slot, 255)).1

/-- The factory defaults of items 0..50. -/
def factoryItems : Tab Word 51 := ⟨itemRows.map (·.2), by decide⟩

/-- The content of the configuration store (R188): items 0..50, the order table and the stage table. -/
structure Image where
  items : Tab Word 51
  orders : Tab OrderEntry 24
  stages : Tab StageEntry 4
deriving DecidableEq, Repr

/-- What a reset loads when the store is INVALID (R189). -/
def factoryImage : Image := ⟨factoryItems, factoryOrders, factoryStages⟩

/-! ### Item numbers (file 11, Items) -/

namespace Item

def coachClass : Nat := 0
/-- The leaf count of a side. -/
def leafCount : Side → Nat
  | .a => 1
  | .b => 2
def cabFitted : Nat := 3
def cabEnd : Nat := 4
def autoStart : Nat := 5
def autoRecall : Nat := 6
def silence : Nat := 7
def callWindow : Nat := 8
def surveyPeriod : Nat := 9
def leadLoss : Nat := 10
/-- The filter time of an input's class (file 10, Inputs). -/
def filter : Input → Nat
  | .cpl _ => 11
  | .key => 12
  | .zsp => 12
  | .iso _ => 12
  | .leaf _ _ => 13
  | .th => 14
def warnTime : Nat := 15
def closeTime : Nat := 16
def recycleTime : Nat := 17
def maxRetries : Nat := 18
def tonePattern : Nat := 19
def vNom : Nat := 20
def shedV : Nat := 21
def restoreV : Nat := 22
def warmCap : Nat := 23
def fallback : Nat := 24
def stageGap : Nat := 25
def minOff : Nat := 26
def holdover : Nat := 27
def passTimeout : Nat := 28
def stagger : Nat := 29
def defaultBudget : Nat := 30
def defaultDemand : Nat := 31
def defaultPeriod : Nat := 32
def noticeLow : Nat := 33
def noticeHigh : Nat := 34
/-- The first report map slot. -/
def mapSlot : Nat := 35

end Item

/-- The bit of an input in items 81 and 82 (file 11), and its place in State's list of inputs. -/
def inputIndex : Input → Nat
  | .cpl .e1 => 0
  | .cpl .e2 => 1
  | .key => 2
  | .zsp => 3
  | .iso .a => 4
  | .iso .b => 5
  | .leaf .a n => 6 + n.val
  | .leaf .b n => 10 + n.val
  | .th => 14

/-- Every discrete input, in the order of items 81 and 82. -/
def allInputs : List Input :=
  [.cpl .e1, .cpl .e2, .key, .zsp, .iso .a, .iso .b, .leaf .a 0, .leaf .a 1, .leaf .a 2, .leaf .a 3,
   .leaf .b 0, .leaf .b 1, .leaf .b 2, .leaf .b 3, .th]

end Sys2Proof.Machine
end

