-- ==== Sys2Proof/Machine/Blocks.lean ====
section
/-! DEFINITION. The state each block holds, and each block's state as a reset leaves it: the tables "after any reset" of the
chapters. Timers that start at the end of a reset are stopped here and are started by `resetEnd` (R189). -/

namespace Sys2Proof.Machine

/-! ### Port units (file 01) -/

/-- A frame as a transmit queue holds it (R17); its length is its payload's. -/
structure Frame where
  kind : Kind
  flags : Byte
  dest : Byte
  src : Byte
  payload : List Byte
  check : Word
deriving DecidableEq, Repr

/-- A queued frame with its source rate (R4). `resetReply` marks the REPLY of a NODE RESET (R187). -/
structure Queued where
  frame : Frame
  rate : LineRate
  resetReply : Bool
deriving DecidableEq, Repr

/-- What a port is sending: the rate fixed at the start (R4), and the IDLE frame where it is one, which takes no queue
slot (R12); otherwise it is the head of the queue. -/
structure Sending where
  rate : LineRate
  idleFrame : Option Frame
deriving DecidableEq, Repr

/-- The receive states (R5). -/
inductive RxState where
  | hunt | assembling | discarding
deriving DecidableEq, Repr

/-- A port unit (file 01). -/
structure PortUnit where
  lock : Option LineRate
  rx : RxState
  buffer : List Byte
  queue : List Queued
  sending : Option Sending
  attempt : Nat
  lineErrors : Nat
  overflows : Nat
deriving DecidableEq, Repr

/-- A port unit after any reset (file 01). -/
def PortUnit.reset : PortUnit := ⟨none, .hunt, [], [], none, 1, 0, 0⟩

/-- What an end port holds besides (R11, R12). A stopped idle timer has expired. -/
structure EndUnit where
  silence : Timer
  idleTimer : Timer
deriving DecidableEq, Repr

/-- The end ports as the end of a reset at time 0 leaves them (R11, R12). -/
def EndUnit.reset : EndUnit := ⟨none, some idleInterval⟩

/-- The line-hold watch (R10). -/
inductive Watch where
  | disarmed | armed | timing
deriving DecidableEq, Repr

/-- What the cab port holds besides (R3, R10). -/
structure CabUnit where
  lockTimer : Timer
  watch : Watch
  holdTimer : Timer
deriving DecidableEq, Repr

/-! ### Consist unit and lead machine (files 03, 04) -/

/-- The node consist states (R43), in the order of their codes. -/
inductive ConsistState where
  | unplaced | placing | placed | stale | conflict
deriving DecidableEq, Repr

/-- The sense comparison of an end (R74). -/
inductive Comparison where
  | notMade | agree | segmentFault | senseMismatch
deriving DecidableEq, Repr

/-- The consist table: the record at position p stands at index p − 1 (R69). -/
abbrev ConsistTable := Tab (Option CoachRecord) 32

/-- A consist table with no record. -/
def emptyTable : ConsistTable := Tab.fill 32 none

/-- The consist unit (files 03, 04). A stopped hold-off timer has expired. -/
structure Consist where
  state : ConsistState
  position : Nat
  leadEnd : Option End
  table : ConsistTable
  length : Nat
  check : Word
  placing : Timer
  comp1 : Comparison
  comp2 : Comparison
  holdOff : Timer
  leadLoss : Timer
deriving DecidableEq, Repr

/-- The consist unit after any reset (R43, R74, R77). -/
def Consist.reset : Consist := ⟨.unplaced, 0, none, emptyTable, 0, 0, none, .notMade, .notMade, none, none⟩

/-- The lead machine's states, in the order of their codes (R21). -/
inductive LeadState where
  | standby | calling | rostering | confirming | leading | failed
deriving DecidableEq, Repr

/-- The failure reasons, in the order of their codes (R21). -/
inductive Reason where
  | none | noTail | gaps | conflict | leadNotAtEnd | confirm | stopped | tooLong
deriving DecidableEq, Repr

/-- The lead role and the lead machine (file 03). -/
structure Lead where
  role : Bool
  state : LeadState
  reason : Reason
  conflictId : Identity
  attempt : Nat
  round : Nat
  window : Timer
  sendList : List Frame
deriving DecidableEq, Repr

/-- The lead machine after any reset (file 03). -/
def Lead.reset : Lead := ⟨false, .standby, .none, 0, 1, 1, none, []⟩

/-- The last survey record (R83, R86). -/
structure SurveyRecord where
  number : Byte
  allSecured : Bool
  endPosition : Byte
  firstOpen : Byte
  firstFault : Byte
  firstStale : Byte
  firstBreak : Byte
  firstEvent : Byte
deriving DecidableEq, Repr

/-- The survey state of the lead machine (file 04). -/
structure SurveyUnit where
  period : Timer
  number : Byte
  outstanding : Option Byte
  misses : Nat
  record : SurveyRecord
  foundStale : Bool
deriving DecidableEq, Repr

/-- The survey state after any reset (R86). -/
def SurveyUnit.reset : SurveyUnit := ⟨none, 0, none, 0, ⟨0, false, 0, 0, 0, 0, 0, 0⟩, false⟩

/-! ### Allocation sequencer (file 09) -/

/-- The cycle in flight: its current level, and the B0 and D taken at its start. -/
structure Cycle where
  level : Nat
  budget : Nat
  demand : Nat
deriving DecidableEq, Repr

/-- How a cycle ended, in the order of the codes (R21). -/
inductive CycleResult where
  | none | complete | timeout | abandoned
deriving DecidableEq, Repr

/-- The fields of a reflected pass that the sequencer keeps (R159). -/
structure Reflected where
  residual : Word
  granted : Byte
  shortfall : Byte
deriving DecidableEq, Repr

/-- The last cycle record (R162). -/
structure LastCycle where
  number : Byte
  result : CycleResult
  level : Nat
  fields : Reflected
deriving DecidableEq, Repr

/-- The allocation sequencer (file 09). It is PASSING while a cycle is in flight, and IDLE otherwise. -/
structure Sequencer where
  budget : Nat
  demand : Nat
  period : Nat
  periodTimer : Timer
  number : Byte
  cycle : Option Cycle
  passTimer : Timer
  reflected : Option Reflected
  last : LastCycle
deriving DecidableEq, Repr

/-- The sequencer after any reset: the working setup is loaded from the lead default items (R156). -/
def Sequencer.reset (items : Tab Word 51) : Sequencer :=
  ⟨(items.getD Item.defaultBudget 0).toNat, (items.getD Item.defaultDemand 0).toNat,
   (items.getD Item.defaultPeriod 0).toNat, none, 0, none, none, none, ⟨0, .none, 0, ⟨0, 0, 0⟩⟩⟩

/-! ### Order dispatcher (file 05) -/

/-- Why a release is refused (R110). -/
inductive Refuse where
  | notStandstill | noConsist | isolated | inFault
deriving DecidableEq, Repr

/-- A channel's answer to a door action, or that it was not addressed (R100). -/
inductive SideResult where
  | notAddressed | accepted | unchanged | refused (why : Refuse)
deriving DecidableEq, Repr

/-- The outcome of an ORDER (R100). -/
inductive OrderOutcome where
  | none | unmatched | ignored | outOfRange | badArgument | done | partly | refused
deriving DecidableEq, Repr

/-- The last-outcome record (R100). An absent entry index or action is NONE. -/
structure LastOutcome where
  code : Byte
  side : Byte
  first : Byte
  last : Byte
  entry : Option Nat
  action : Option Action
  outcome : OrderOutcome
  sideA : SideResult
  sideB : SideResult
deriving DecidableEq, Repr

/-- The order dispatcher less its table (file 05). -/
structure Dispatcher where
  last : LastOutcome
  unmatched : Nat
deriving DecidableEq, Repr

/-- The dispatcher after any reset (R103). -/
def Dispatcher.reset : Dispatcher := ⟨⟨0, 0, 0, 0, none, none, .none, .notAddressed, .notAddressed⟩, 0⟩

/-! ### Door unit (file 06) -/

/-- The channel states, in the order of their codes. -/
inductive DoorState where
  | locked | released | warning | closing | recycle | fault | isolated
deriving DecidableEq, Repr

/-- The last fault causes, in the order of their codes. -/
inductive FaultCause where
  | none | settling | closeTimeout | leafOpened | isolateRemoved | settledOpen
deriving DecidableEq, Repr

/-- One door channel (file 06). The channel timer runs as the warn, close or recycle timer by the state (R114). -/
structure Channel where
  state : DoorState
  hold : Bool
  timer : Timer
  retries : Nat
  cause : FaultCause
deriving DecidableEq, Repr

/-- A channel as a reset leaves it, by the leaf count of its side (R108). -/
def Channel.reset (leaves : Nat) : Channel :=
  if leaves = 0 then ⟨.isolated, false, none, 0, .none⟩ else ⟨.fault, true, none, 0, .settling⟩

/-- The tone patterns, in the order of their codes. -/
inductive TonePattern where
  | continuous | interrupted
deriving DecidableEq, Repr

/-- A tone demand (R124): since when, with the pattern taken then, the present phase and the timer that ends it. -/
structure Tone where
  since : Nat
  pattern : TonePattern
  phaseOn : Bool
  phase : Timer
deriving DecidableEq, Repr

/-- The door unit (file 06). -/
structure Doors where
  a : Channel
  b : Channel
  chime : Timer
  tone : Option Tone
deriving DecidableEq, Repr

/-- The door unit as a reset leaves it (R108, R124, R125). -/
def Doors.reset (items : Tab Word 51) : Doors :=
  ⟨Channel.reset (items.getD (Item.leafCount .a) 0).toNat, Channel.reset (items.getD (Item.leafCount .b) 0).toNat,
   none, none⟩

/-! ### Heating unit (files 08, 09) -/

/-- The supply monitor's states, in the order of their codes. -/
inductive Monitor where
  | settling | normal | shed
deriving DecidableEq, Repr

/-- A raise schedule (R149 to R151): stage e + 1 is due at `due`; `waiting` once that time has come while its min-off
timer runs. -/
structure Raise where
  due : Nat
  waiting : Bool
deriving DecidableEq, Repr

/-- The heating unit (file 08), with the cycle record (file 09). -/
structure Heat where
  stages : Tab StageEntry 4
  monitor : Monitor
  window : List Nat
  vAvg : Nat
  sample : Timer
  cCmd : Nat
  target : Nat
  level : Nat
  minOff : Tab Timer 4
  raise : Option Raise
  restartBlock : Bool
  holdover : Timer
  cycleRec : Option Byte
  grant : Nat
deriving DecidableEq, Repr

/-- The heating unit as a reset leaves it (R155, R163). -/
def Heat.reset (stages : Tab StageEntry 4) : Heat :=
  ⟨stages, .settling, [], 0, none, 4, 0, 0, Tab.fill 4 none, none, true, none, none, 0⟩

/-! ### Local lines (file 10) -/

/-- One discrete input: the raw level at the pin, the filtered level once it has settled (R173), and its stability timer. -/
structure InputLine where
  raw : Bool
  level : Option Bool
  timer : Timer
deriving DecidableEq, Repr

/-! ### Management responder and store (file 11) -/

/-- The responder's states. -/
inductive ResponderState where
  | ready | storePending | resetPending
deriving DecidableEq, Repr

/-- The REPLY owed to a STORE: the port and the source position fixed when it was taken (R188). -/
structure OwedReply where
  port : Port
  source : Nat
deriving DecidableEq, Repr

/-- The store states, in the order of their codes. -/
inductive StoreState where
  | valid | storing | invalid
deriving DecidableEq, Repr

/-- The kinds of reset, in the order of their codes (R189). -/
inductive ResetCause where
  | supply | lineHold | requested
deriving DecidableEq, Repr

/-- The responder and the store (file 11). An absent image has no good integrity check; `storing` is what a store in
progress is writing. -/
structure Responder where
  state : ResponderState
  owed : Option OwedReply
  store : StoreState
  storeTimer : Timer
  image : Option Image
  storing : Option Image
  cause : ResetCause
deriving DecidableEq, Repr

/-! ### The model's own -/

/-- What the event under way has to remember until it ends: the effective target at its start (R150), whether a LEAD
STATUS is owed (R59), and, where a survey evaluation has followed a miss in the same event, the survey state that the
miss's own LEAD STATUS shows (R85, R136; log 36). DESIGN CHOICE: log 26. -/
structure Scratch where
  teff : Nat
  statusDue : Bool
  missed : Option SurveyUnit
deriving DecidableEq, Repr

/-- The scratch fields as they stand between events (log 26). -/
def Scratch.rest : Scratch := ⟨0, false, none⟩

end Sys2Proof.Machine
end

