-- ==== Sys2Proof/Machine/State.lean ====
section
/-! DEFINITION. The state of the node, the two ways a step could stop, and the state right after the power-on reset. -/

namespace Sys2Proof.Machine

/-- No command of the spec stops the node, so there is no fault: nobody raises one. Safe. -/
inductive Fault
deriving DecidableEq, Repr

/-- Refusals. -/
inductive Refusal where
  /-- Raised only by an arm of `exec` whose command has no meaning yet, with the row's mnemonic. Safe. -/
  | notModelled (mnemonic : String)
deriving DecidableEq, Repr

/-- Everything the spec gives the node, its clock, and the queue of the commands that are waiting. -/
structure State where
  /-- The commands that are waiting, first in, first out. -/
  pending : List Instr
  /-- The clock in ms, from which the timers' expiries are counted. DESIGN CHOICE: log 5. -/
  now : Nat
  /-- The identity fixed at manufacture (R18). -/
  identity : Identity
  /-- A SUPPLY reset is in progress: the logic supply is not yet above its upper threshold (R189). -/
  supplyLow : Bool
  pu1 : PortUnit
  pu2 : PortUnit
  puC : PortUnit
  end1 : EndUnit
  end2 : EndUnit
  cab : CabUnit
  /-- The relay engine's two counts (R42). -/
  directionErrors : Nat
  cabRefusals : Nat
  consist : Consist
  lead : Lead
  survey : SurveyUnit
  seq : Sequencer
  /-- The working order table (R88). -/
  orders : Tab OrderEntry 24
  dispatch : Dispatcher
  doors : Doors
  heat : Heat
  /-- The discrete inputs, in the order of `inputIndex`. -/
  inputs : Tab InputLine 15
  /-- The event set: bit i is the event at place i of R21. -/
  events : BitVec 20
  /-- The working configuration items 0..50. -/
  items : Tab Word 51
  mgmt : Responder
  scratch : Scratch
deriving DecidableEq, Repr

/-- The machine right after the SUPPLY reset of power-on has ended, with the store image of a part that has never stored
(DESIGN CHOICE, log 2 and 3): the factory defaults are loaded, and every timer that runs from the end of the reset has
just started. -/
def State.reset : State where
  pending := []
  now := Config.clockStart
  identity := Config.identity
  supplyLow := false
  pu1 := PortUnit.reset
  pu2 := PortUnit.reset
  puC := PortUnit.reset
  end1 := EndUnit.reset
  end2 := EndUnit.reset
  cab := ⟨none, .disarmed, none⟩
  directionErrors := 0
  cabRefusals := 0
  consist := { Consist.reset with holdOff := some 400 }
  lead := Lead.reset
  survey := SurveyUnit.reset
  seq := Sequencer.reset factoryItems
  orders := factoryOrders
  dispatch := Dispatcher.reset
  doors := Doors.reset factoryItems
  heat := { Heat.reset factoryStages with
    sample := some samplePeriod, minOff := Tab.fill 4 (some 5000), holdover := some 90000 }
  inputs := ⟨allInputs.map (fun i =>
    ⟨Config.rawLevel, none, some (factoryItems.getD (Item.filter i) 0).toNat⟩), by decide⟩
  events := 0x03000#20
  items := factoryItems
  mgmt := ⟨.ready, none, .invalid, none, none, none, .supply⟩
  scratch := Scratch.rest

end Sys2Proof.Machine
end

