-- ==== Sys2Proof/Machine/Operands.lean ====
section
/-! DEFINITION. The operand forms of the commands: characters and rates as measured, byte order, the frame check, the frame
header, and the typed view of every payload that a unit reads or writes (file 01). -/

namespace Sys2Proof.Machine

/-! ### Byte order (R17: least significant byte first) -/

/-- The byte at offset `i` of a payload. -/
def byteAt (l : List Byte) (i : Nat) : Byte := l.getD i 0

/-- The 16-bit field at offset `i`. -/
def wordAt (l : List Byte) (i : Nat) : Word := byteAt l (i + 1) ++ byteAt l i

/-- The low and the high byte of a 16-bit value. -/
def loByte (w : Word) : Byte := w.extractLsb' 0 8
def hiByte (w : Word) : Byte := w.extractLsb' 8 8

/-- A 16-bit field as sent. -/
def wordBytes (w : Word) : List Byte := [loByte w, hiByte w]

/-- The 16-bit fields of a list of bytes. -/
def wordsOf : List Byte → List Word
  | lo :: hi :: rest => (hi ++ lo) :: wordsOf rest
  | _ => []

/-- A list of 16-bit fields as sent. -/
def bytesOf (ws : List Word) : List Byte := ws.flatMap wordBytes

/-- The byte of a number below 256. -/
def byteOf (n : Nat) : Byte := BitVec.ofNat 8 n

/-- Two byte fields as one item value: the first is the low byte (R182). -/
def pairItem (lo hi : Nat) : Word := byteOf hi ++ byteOf lo

/-- A single field as an item value. -/
def wordItem (n : Nat) : Word := BitVec.ofNat 16 n

/-- 1 for true. -/
def bit (b : Bool) : Nat := if b then 1 else 0

/-- The number whose bit i is entry i of the list. -/
def bitsOf : List Bool → Nat
  | [] => 0
  | b :: rest => bit b + 2 * bitsOf rest

/-! ### Characters and rates (R1, R2) -/

/-- The eight data bits and the parity bit together hold an even number of ones (R1). -/
def evenParity (c : Character) : Bool :=
  c.parity == [0, 1, 2, 3, 4, 5, 6, 7].foldl (fun b i => b ^^ c.data.getLsbD i) false

/-- The character is whole: even parity, and the stop bit at mark (R1). -/
def charGood (c : Character) : Bool := evenParity c && c.stop

/-- The acceptance window of a rate, in hundredths of a microsecond, both ends included (file 01, Line rate). -/
def rateWindow : LineRate → Nat × Nat
  | .bps19200 => (4896, 5521)
  | .bps38400 => (2448, 2760)
  | .bps76800 => (1224, 1380)
  | .bps153600 => (612, 690)

/-- The measured bit time lies in the rate's window. -/
def inWindow (r : LineRate) (bitTime : Nat) : Bool :=
  (rateWindow r).1 ≤ bitTime && bitTime ≤ (rateWindow r).2

/-- The rate whose window holds the measured bit time, if any: the windows do not overlap (R2). -/
def rateOf (bitTime : Nat) : Option LineRate :=
  [LineRate.bps19200, .bps38400, .bps76800, .bps153600].find? (fun r => inWindow r bitTime)

/-- The sync test of R2: the measured bit time lies in the window of the port's locked rate, or of any rate on an UNLOCKED
port, and the character decodes as 0x55 with even parity. It gives the rate the port is then locked at. -/
def syncRate (lock : Option LineRate) (bitTime : Nat) (c : Character) : Option LineRate :=
  if c.data = syncByte ∧ charGood c then
    match lock with
    | none => rateOf bitTime
    | some r => if inWindow r bitTime then some r else none
  else none

/-- The default line rate (R4). -/
def defaultRate : LineRate := .bps38400

/-! ### The frame check (R14) -/

/-- One bit into the register (R14, step 3). -/
def crcBit (reg : Word) (b : Bool) : Word :=
  if reg.getLsbD 0 = b then reg >>> 1 else (reg >>> 1) ^^^ 0xA6BC#16

/-- One byte, least significant bit first (R14, step 2). -/
def crcByte (reg : Word) (b : Byte) : Word :=
  [0, 1, 2, 3, 4, 5, 6, 7].foldl (fun r i => crcBit r (b.getLsbD i)) reg

/-- The check of a list of bytes (R14): preset to all ones, complemented at the end. -/
def crc (bytes : List Byte) : Word := ~~~ (bytes.foldl crcByte 0xFFFF#16)

/-! ### Frame kinds (R17) -/

/-- The code of a kind. -/
def kindCode : Kind → Byte
  | .idle => 0x00
  | .call => 0x01
  | .answer => 0x02
  | .tail => 0x03
  | .roster => 0x04
  | .confirm => 0x05
  | .survey => 0x06
  | .order => 0x07
  | .heatPass => 0x08
  | .heatSet => 0x09
  | .request => 0x0A
  | .reply => 0x0B
  | .leadStatus => 0x0C

/-- The kind of a code; none for a code that is not in the table. -/
def kindOf (code : Byte) : Option Kind :=
  [Kind.idle, .call, .answer, .tail, .roster, .confirm, .survey, .order, .heatPass, .heatSet, .request, .reply,
    .leadStatus].find? (fun k => kindCode k = code)

/-- The allowed payload lengths (file 01, Frame kinds). -/
def allowedLength (k : Kind) (n : Nat) : Bool :=
  match k with
  | .idle => n == 0
  | .call => n == 1
  | .answer => n == 10
  | .tail => n == 6
  | .roster => n == 12 || n == 22 || n == 32 || n == 42
  | .confirm => n == 4
  | .survey => n == 11
  | .order => n == 4
  | .heatPass => n == 7
  | .heatSet => n == 3
  | .request => 1 ≤ n && n ≤ 48
  | .reply => 2 ≤ n && n ≤ 48
  | .leadStatus => n == 22

/-- The length test of R6 on a whole payload; for a ROSTER also the entry-count test. -/
def lengthGood (k : Kind) (payload : List Byte) : Bool :=
  allowedLength k payload.length &&
    (k != .roster || (payload.length == 2 + 10 * (byteAt payload 1).toNat &&
      1 ≤ (byteAt payload 1).toNat && (byteAt payload 1).toNat ≤ 4))

/-- The length test of R6 on the characters that fail it: the kind and length characters, and the entry-count character
where it has been received. -/
def lengthCharsGood (kind length : Byte) (count : Option Byte) : Bool :=
  match kindOf kind with
  | none => false
  | some k => allowedLength k length.toNat &&
      (match k, count with
       | .roster, some c => length.toNat == 2 + 10 * c.toNat && 1 ≤ c.toNat && c.toNat ≤ 4
       | _, _ => true)

/-! ### The frame header (R17) -/

/-- The character "flags and hop": bit 7 direction, bit 6 REFLECTED, bits 5..0 the hop, saturating at 63 (R28). -/
def flagsByte (leadward reflected : Bool) (hop : Nat) : Byte :=
  byteOf (128 * bit leadward + 64 * bit reflected + min 63 hop)

namespace Frame

/-- Direction LEADWARD. -/
def leadward (f : Frame) : Bool := f.flags.getLsbD 7
/-- The REFLECTED flag. -/
def reflected (f : Frame) : Bool := f.flags.getLsbD 6
/-- The hop, 0..63. -/
def hop (f : Frame) : Nat := f.flags.toNat % 64

/-- The characters the frame check covers: from kind through the last payload character (R14). -/
def checked (f : Frame) : List Byte :=
  [kindCode f.kind, f.flags, f.dest, f.src, byteOf f.payload.length] ++ f.payload

/-- The frame's own check is the one computed over it (R7). -/
def checkGood (f : Frame) : Bool := f.check = crc f.checked

/-- The check recomputed (R35). -/
def recheck (f : Frame) : Frame := { f with check := crc f.checked }

/-- All the characters on the line (R17). -/
def chars (f : Frame) : List Byte := syncByte :: f.checked ++ wordBytes f.check

end Frame

/-- A frame built by the node, with its check (R14). -/
def mkFrame (kind : Kind) (leadward reflected : Bool) (hop : Nat) (dest src : Byte) (payload : List Byte) : Frame :=
  Frame.recheck ⟨kind, flagsByte leadward reflected hop, dest, src, payload, 0⟩

/-- The destination ALL. -/
def destAll : Byte := 255

/-- A frame the lead originates (R36): OUTWARD, hop 1, source 1, destination ALL. -/
def leadFrame (kind : Kind) (payload : List Byte) : Frame := mkFrame kind false false 1 destAll 1 payload

/-- The kinds that the end node reflects (R31). -/
def sweepKind : Kind → Bool
  | .confirm => true
  | .survey => true
  | .heatPass => true
  | _ => false

/-- The table of R24: which flags and destination an end port accepts for each kind. -/
def acceptedOnEnd (f : Frame) : Bool :=
  match f.kind with
  | .call | .roster | .order | .heatSet => !f.leadward && !f.reflected && f.dest = destAll
  | .confirm | .survey | .heatPass => f.leadward == f.reflected && f.dest = destAll
  | .request => !f.leadward && !f.reflected && 1 ≤ f.dest.toNat && f.dest.toNat ≤ 32
  | .answer | .tail | .reply => f.leadward && !f.reflected && f.dest = 1
  | .leadStatus => false
  | .idle => false

/-- The frame of a LineFrame with its kind and the payload bytes its command fixes. -/
def frameOf (f : LineFrame) (kind : Kind) (fixed : List Byte) : Frame :=
  ⟨kind, f.flags, f.dest, f.src, fixed ++ f.body, f.check⟩

/-! ### Coach record (R18) -/

namespace CoachRecord

/-- The record's orientation bit: set for E2_LEADWARD. -/
def e2Leadward (r : CoachRecord) : Bool := r.classFlags.getLsbD 4

/-- The identity, least significant byte first. -/
def identityBytes (i : Identity) : List Byte :=
  [i.extractLsb' 0 8, i.extractLsb' 8 8, i.extractLsb' 16 8, i.extractLsb' 24 8]

/-- The identity at offset `k`. -/
def identityAt (l : List Byte) (k : Nat) : Identity :=
  byteAt l (k + 3) ++ byteAt l (k + 2) ++ byteAt l (k + 1) ++ byteAt l k

/-- The ten bytes of a record. -/
def bytes (r : CoachRecord) : List Byte :=
  identityBytes r.identity ++ [r.position, r.classFlags, r.leaves, r.stages] ++ wordBytes r.current

/-- The record in ten bytes: the fields as received, the unused bit disregarded (R17). -/
def ofBytes (l : List Byte) : CoachRecord :=
  ⟨identityAt l 0, byteAt l 4, byteAt l 5 &&& 0x7F#8, byteAt l 6, byteAt l 7, wordAt l 8⟩

/-- The records of a list of bytes, ten bytes each. -/
def listOf : Nat → List Byte → List CoachRecord
  | 0, _ => []
  | k + 1, l => ofBytes (l.take 10) :: listOf k (l.drop 10)

end CoachRecord

/-! ### Payloads of roll call and sweeps (R19) -/

/-- A TAIL's payload. -/
structure TailData where
  last : Byte
  overflow : Bool
  conflict : Bool
  identity : Identity
deriving DecidableEq, Repr

def TailData.ofPayload (l : List Byte) : TailData :=
  ⟨byteAt l 0, (byteAt l 1).getLsbD 0, (byteAt l 1).getLsbD 1, CoachRecord.identityAt l 2⟩

def TailData.payload (t : TailData) : List Byte :=
  [t.last, byteOf (bit t.overflow + 2 * bit t.conflict)] ++ CoachRecord.identityBytes t.identity

/-- A CONFIRM's payload. -/
structure ConfirmData where
  length : Byte
  check : Word
  mismatch : Byte
deriving DecidableEq, Repr

def ConfirmData.ofPayload (l : List Byte) : ConfirmData := ⟨byteAt l 0, wordAt l 1, byteAt l 3⟩
def ConfirmData.payload (c : ConfirmData) : List Byte := c.length :: wordBytes c.check ++ [c.mismatch]

/-- A SURVEY's payload. `flags` keeps the unused bits as received (log 22). -/
structure SurveyData where
  number : Byte
  length : Byte
  check : Word
  endPosition : Byte
  flags : Byte
  firstOpen : Byte
  firstFault : Byte
  firstStale : Byte
  firstBreak : Byte
  firstEvent : Byte
deriving DecidableEq, Repr

/-- The all-secured flag (R19). -/
def SurveyData.allSecured (d : SurveyData) : Bool := d.flags.getLsbD 0

def SurveyData.ofPayload (l : List Byte) : SurveyData :=
  ⟨byteAt l 0, byteAt l 1, wordAt l 2, byteAt l 4, byteAt l 5, byteAt l 6, byteAt l 7, byteAt l 8, byteAt l 9, byteAt l 10⟩

def SurveyData.payload (d : SurveyData) : List Byte :=
  [d.number, d.length] ++ wordBytes d.check ++
    [d.endPosition, d.flags, d.firstOpen, d.firstFault, d.firstStale, d.firstBreak, d.firstEvent]

/-! ### Order and heating payloads (R20) -/

/-- An ORDER's payload. -/
structure OrderData where
  code : Byte
  side : Byte
  first : Byte
  last : Byte
deriving DecidableEq, Repr

def OrderData.ofPayload (l : List Byte) : OrderData := ⟨byteAt l 0, byteAt l 1, byteAt l 2, byteAt l 3⟩

/-- A HEAT PASS's payload. -/
structure PassData where
  cycle : Byte
  level : Byte
  residual : Word
  granted : Byte
  shortfall : Byte
  demand : Byte
deriving DecidableEq, Repr

def PassData.ofPayload (l : List Byte) : PassData :=
  ⟨byteAt l 0, byteAt l 1, wordAt l 2, byteAt l 4, byteAt l 5, byteAt l 6⟩

def PassData.payload (d : PassData) : List Byte :=
  [d.cycle, d.level] ++ wordBytes d.residual ++ [d.granted, d.shortfall, d.demand]

/-- A HEAT SET's payload. -/
structure HeatSetData where
  cycle : Byte
  stagger : Word
deriving DecidableEq, Repr

def HeatSetData.ofPayload (l : List Byte) : HeatSetData := ⟨byteAt l 0, wordAt l 1⟩
def HeatSetData.payload (d : HeatSetData) : List Byte := d.cycle :: wordBytes d.stagger

/-! ### Table entries on the line (R21) -/

def actionCode : Action → Byte
  | .ignore => 0
  | .release => 1
  | .close => 2
  | .doorReset => 3
  | .chime => 4
  | .heatCap => 5

/-- The action of a code; none for a code above 5 (R101). -/
def actionOf (c : Byte) : Option Action :=
  [Action.ignore, .release, .close, .doorReset, .chime, .heatCap].find? (fun a => actionCode a = c)

/-- The eight bytes of an order-table entry. -/
def OrderEntry.bytes (e : OrderEntry) : List Byte :=
  [byteOf (bit e.valid), e.code] ++ wordBytes e.classes ++ [e.first, e.last, actionCode e.action, e.param]

/-- The entry in eight bytes, where it passes the content tests of R101. -/
def OrderEntry.ofBytes (l : List Byte) : Option OrderEntry :=
  match actionOf (byteAt l 6) with
  | none => none
  | some a =>
    if (byteAt l 0).toNat ≤ 1 ∧ 1 ≤ (byteAt l 1).toNat ∧ (byteAt l 1).toNat ≤ 63 ∧ (byteAt l 4).toNat ≤ 32 ∧
        1 ≤ (byteAt l 5).toNat ∧ (byteAt l 5).toNat ≤ 32 ∧
        ((byteAt l 4).toNat = 0 ∨ (byteAt l 4).toNat ≤ (byteAt l 5).toNat) then
      some ⟨byteAt l 0 = 1, byteAt l 1, wordAt l 2, byteAt l 4, byteAt l 5, a, byteAt l 7⟩
    else none

/-- `k` order entries in a row; none if any of them fails the tests (R101). -/
def OrderEntry.listOf : Nat → List Byte → Option (List OrderEntry)
  | 0, _ => some []
  | k + 1, l =>
    match OrderEntry.ofBytes (l.take 8), OrderEntry.listOf k (l.drop 8) with
    | some e, some es => some (e :: es)
    | _, _ => none

/-- The two bytes of a stage-table entry. -/
def StageEntry.bytes (e : StageEntry) : List Byte := [byteOf (bit e.enabled + 2 * bit e.doorHold), e.current]

/-- `k` stage entries in a row; the unused flag bits are disregarded (R139). -/
def StageEntry.listOf : Nat → List Byte → List StageEntry
  | 0, _ => []
  | k + 1, l => ⟨(byteAt l 0).getLsbD 0, byteAt l 1, (byteAt l 0).getLsbD 1⟩ :: StageEntry.listOf k (l.drop 2)

end Sys2Proof.Machine
end

