-- ==== Sys2Proof/Machine/Flags.lean ====
section
/-! DEFINITION. The event set: the twenty events, raising them, and removing the events a read has returned (file 10). -/

namespace Sys2Proof.Machine

/-- The twenty events, in the bit order of R21. -/
inductive Event where
  | cpl1Change | cpl2Change | placed | unplaced | stale | leadLost | autoClose
  | doorRecycle | heatHoldover | lineError | queueOverflow | storeDone | storeInvalid | reset
  | doorFaultA | doorFaultB | supplyShed | segmentFault | senseMismatch | conflict
deriving DecidableEq, Repr

/-- An event's bit (R21). -/
def eventBit : Event → Nat
  | .cpl1Change => 0
  | .cpl2Change => 1
  | .placed => 2
  | .unplaced => 3
  | .stale => 4
  | .leadLost => 5
  | .autoClose => 6
  | .doorRecycle => 7
  | .heatHoldover => 8
  | .lineError => 9
  | .queueOverflow => 10
  | .storeDone => 11
  | .storeInvalid => 12
  | .reset => 13
  | .doorFaultA => 14
  | .doorFaultB => 15
  | .supplyShed => 16
  | .segmentFault => 17
  | .senseMismatch => 18
  | .conflict => 19

/-- The event is present in the set. -/
def State.present (s : State) (ev : Event) : Bool := s.events.getLsbD (eventBit ev)

/-- Raising an event makes it present; one already present stays so (R175). -/
def raise (ev : Event) (s : State) : State :=
  { s with events := s.events ||| BitVec.twoPow 20 (eventBit ev) }

/-- Raising an event where a condition holds. -/
def raiseIf (c : Bool) (ev : Event) (s : State) : State := if c then raise ev s else s

/-- The coupling-change event of an end (R75). -/
def cplChange : End → Event
  | .e1 => .cpl1Change
  | .e2 => .cpl2Change

/-- The door-fault event of a channel (R123). -/
def doorFaultEvent : Side → Event
  | .a => .doorFaultA
  | .b => .doorFaultB

end Sys2Proof.Machine
end

