-- ==== Sys2Proof/Machine/Ops.lean ====
section
/-! DEFINITION. The named operations over the state that every block uses: items, ports and queues, ends and positions,
inputs, and timers. -/

namespace Sys2Proof.Machine

/-! ### Items -/

/-- The working value of configuration item `n`. -/
def State.item (s : State) (n : Nat) : Word := s.items.getD n 0

/-- The same as a number. -/
def State.itemN (s : State) (n : Nat) : Nat := (s.item n).toNat

/-- The item is on (a code 1). -/
def State.itemOn (s : State) (n : Nat) : Bool := s.item n = 1

/-! ### Timers (file 00, Time) -/

/-- A timer started or restarted now, for `ms` milliseconds. -/
def State.start (s : State) (ms : Nat) : Timer := some (s.now + ms)

/-- A timer of an item that may be 0 expires as it starts (R148). -/
def State.startOrExpired (s : State) (ms : Nat) : Timer := if ms = 0 then none else s.start ms

/-- The clock at an expiry: the timer's time has run (log 7). -/
def State.reach (s : State) (d : Nat) : State := { s with now := max s.now d }

/-- A timer's expiry as an event: where the timer runs, the clock has reached its time and `f` is done; a timer that is
stopped does not expire (file 00, Time; log 6). -/
def onExpiry (t : Timer) (f : State → State) (s : State) : State :=
  match t with
  | some d => f (s.reach d)
  | none => s

/-! ### Ports (file 01) -/

/-- The unit of a port. -/
def State.port (s : State) : Port → PortUnit
  | .line .e1 => s.pu1
  | .line .e2 => s.pu2
  | .cab => s.puC

/-- The state with a port's unit replaced. -/
def State.setPort (s : State) (p : Port) (u : PortUnit) : State :=
  match p with
  | .line .e1 => { s with pu1 := u }
  | .line .e2 => { s with pu2 := u }
  | .cab => { s with puC := u }

/-- The end unit of an end. -/
def State.endUnit (s : State) : End → EndUnit
  | .e1 => s.end1
  | .e2 => s.end2

/-- The state with an end's unit replaced. -/
def State.setEnd (s : State) (e : End) (u : EndUnit) : State :=
  match e with
  | .e1 => { s with end1 := u }
  | .e2 => { s with end2 := u }

/-- The end is alive: its silence timer runs (R11). Its neighbour is then present (R72). -/
def State.alive (s : State) (e : End) : Bool := (s.endUnit e).silence.isSome

/-- A frame offered to a port's queue: it joins behind the others, or, at a full queue, is discarded and counted, and
QUEUE_OVERFLOW is raised (R13). -/
def offerQueued (p : Port) (q : Queued) (s : State) : State :=
  let u := s.port p
  if u.queue.length < queueSlots then s.setPort p { u with queue := u.queue ++ [q] }
  else raise .queueOverflow (s.setPort p { u with overflows := satInc u.overflows })

/-- A frame offered with its source rate (R4, R13). -/
def offer (p : Port) (f : Frame) (rate : LineRate) (s : State) : State := offerQueued p ⟨f, rate, false⟩ s

/-- The port's queue has a free slot. -/
def State.hasSlot (s : State) (p : Port) : Bool := (s.port p).queue.length < queueSlots

/-- The idle timer of an end port restarts (R12); the cab port has none. -/
def restartIdle (p : Port) (s : State) : State :=
  match p with
  | .line e => s.setEnd e { s.endUnit e with idleTimer := s.start idleInterval }
  | .cab => s

/-- A failed frame is dropped whole: counted, LINE_ERROR raised, and the port goes to `next` (R8). -/
def dropFrame (p : Port) (next : RxState) (s : State) : State :=
  let u := s.port p
  raise .lineError (s.setPort p { u with rx := next, buffer := [], lineErrors := satInc u.lineErrors })

/-! ### Position and ends (R23, R30) -/

/-- The node holds a position: PLACING, PLACED or STALE (R23). -/
def State.holdsPosition (s : State) : Bool :=
  s.consist.state == .placing || s.consist.state == .placed || s.consist.state == .stale

/-- The node is PLACED or STALE. -/
def State.placedOrStale (s : State) : Bool := s.consist.state == .placed || s.consist.state == .stale

/-- The outward end: the one opposite the leadward end (R23). -/
def State.outwardEnd (s : State) : Option End := s.consist.leadEnd.map End.other

/-- The outward end has a present neighbour. -/
def State.outwardPresent (s : State) : Bool :=
  match s.outwardEnd with
  | some e => s.alive e
  | none => false

/-- The end node of the line: it holds a position and its outward end has no present neighbour (R30). -/
def State.endNode (s : State) : Bool := s.holdsPosition && !s.outwardPresent

/-- The node's position as the source field of a frame it builds: 0 without one. -/
def State.sourceByte (s : State) : Byte := byteOf s.consist.position

/-- A frame offered to the queue of an end that may be absent; without that end it goes nowhere. -/
def offerEnd (e : Option End) (f : Frame) (rate : LineRate) (s : State) : State :=
  match e with
  | some e => offer (.line e) f rate s
  | none => s

/-! ### Inputs (file 10) -/

/-- A discrete input. -/
def State.input (s : State) (i : Input) : InputLine := s.inputs.getD (inputIndex i) ⟨false, none, none⟩

/-- The state with an input replaced. -/
def State.setInput (s : State) (i : Input) (l : InputLine) : State :=
  { s with inputs := s.inputs.set (inputIndex i) l }

/-- The filtered level is active; an unsettled input is not (R173). -/
def State.active (s : State) (i : Input) : Bool := (s.input i).level = some true

/-- The filtered level is inactive, the input having settled. -/
def State.inactive (s : State) (i : Input) : Bool := (s.input i).level = some false

/-- The input has settled (R173). -/
def State.settled (s : State) (i : Input) : Bool := (s.input i).level.isSome

/-! ### Channels (file 06) -/

/-- A side's channel. -/
def State.channel (s : State) : Side → Channel
  | .a => s.doors.a
  | .b => s.doors.b

/-- The state with a side's channel replaced. -/
def State.setChannel (s : State) (c : Side) (ch : Channel) : State :=
  match c with
  | .a => { s with doors := { s.doors with a := ch } }
  | .b => { s with doors := { s.doors with b := ch } }

/-- A channel is secured in LOCKED or ISOLATED (R107). -/
def State.secured (s : State) (c : Side) : Bool :=
  (s.channel c).state == .locked || (s.channel c).state == .isolated

/-- The doors-secured summary (R107). -/
def State.doorsSecured (s : State) : Bool := s.secured .a && s.secured .b

/-- The DOOR_FAULT condition of a channel: in FAULT and not under the settling hold (R123). -/
def State.doorFault (s : State) (c : Side) : Bool := (s.channel c).state == .fault && !(s.channel c).hold

/-! ### Sense comparisons (R74) -/

/-- The comparison of an end. -/
def State.comparison (s : State) : End → Comparison
  | .e1 => s.consist.comp1
  | .e2 => s.consist.comp2

/-- The state with an end's comparison replaced. -/
def State.setComparison (s : State) (e : End) (c : Comparison) : State :=
  match e with
  | .e1 => { s with consist := { s.consist with comp1 := c } }
  | .e2 => { s with consist := { s.consist with comp2 := c } }

/-- Either end's comparison is `c`. -/
def State.anyComparison (s : State) (c : Comparison) : Bool := s.consist.comp1 == c || s.consist.comp2 == c

end Sys2Proof.Machine
end

