-- ==== Sys2Proof/Machine/Doors.lean ====
section
/-! DEFINITION. The door unit (files 06, 07): leaves, door actions, the close sequence, standstill, isolation, the settling
hold, leaf-count writes, tone and chime, and the door fields of the survey. -/

namespace Sys2Proof.Machine

/-! ### Leaves (R105) -/

/-- The leaf count of a side. -/
def State.leafCount (s : State) (c : Side) : Nat := s.itemN (Item.leafCount c)

/-- The leaf numbers 0..3 that lie below the side's leaf count. -/
def State.leaves (s : State) (c : Side) : List (Fin 4) :=
  [0, 1, 2, 3].filter (fun n => n.val < s.leafCount c)

/-- All the channel's leaves are closed: each filtered active. -/
def State.allClosed (s : State) (c : Side) : Bool := (s.leaves c).all (fun n => s.active (.leaf c n))

/-- The channel has a leaf open: one filtered inactive. -/
def State.leafOpen (s : State) (c : Side) : Bool := (s.leaves c).any (fun n => s.inactive (.leaf c n))

/-- The isolate input and every leaf input of the channel have settled (R108). -/
def State.channelSettled (s : State) (c : Side) : Bool :=
  s.settled (.iso c) && (s.leaves c).all (fun n => s.settled (.leaf c n))

/-! ### Transitions -/

/-- The channel enters FAULT with a cause, and its door-fault event is raised (R123). -/
def enterFault (c : Side) (cause : FaultCause) (s : State) : State :=
  raise (doorFaultEvent c)
    (s.setChannel c { s.channel c with state := .fault, hold := false, timer := none, cause := cause })

/-- The channel enters LOCKED; its retry count becomes 0 (R116). -/
def enterLocked (c : Side) (s : State) : State :=
  s.setChannel c { s.channel c with state := .locked, hold := false, timer := none, retries := 0 }

/-- The channel enters ISOLATED (R109, R121). -/
def enterIsolated (c : Side) (s : State) : State :=
  s.setChannel c { s.channel c with state := .isolated, hold := false, timer := none, retries := 0 }

/-- The last fault cause is set to NONE, as at the end of a settling hold (R108). -/
def clearCause (c : Side) (s : State) : State := s.setChannel c { s.channel c with cause := .none }

/-- The channel enters RELEASED (R111). -/
def enterReleased (c : Side) (s : State) : State :=
  s.setChannel c { s.channel c with state := .released, timer := none, retries := 0 }

/-- The channel enters WARNING and its warn timer starts (R112, R119). -/
def enterWarning (c : Side) (s : State) : State :=
  s.setChannel c { s.channel c with state := .warning, timer := s.start (s.itemN Item.warnTime) }

/-- The channel's retry count set to 0. -/
def clearRetries (c : Side) (s : State) : State := s.setChannel c { s.channel c with retries := 0 }

/-- The channel enters CLOSING, or goes on to LOCKED in the same event with all its leaves closed (R115, R116, R118). -/
def enterClosing (c : Side) (s : State) : State :=
  if s.allClosed c then enterLocked c s
  else s.setChannel c { s.channel c with state := .closing, timer := s.start (s.itemN Item.closeTime) }

/-- The channel enters RECYCLE: the retry count is counted up and DOOR_RECYCLE raised (R117). -/
def enterRecycle (c : Side) (s : State) : State :=
  raise .doorRecycle (s.setChannel c { s.channel c with
    state := .recycle, timer := s.start (s.itemN Item.recycleTime), retries := (s.channel c).retries + 1 })

/-! ### Door actions (R110 to R113) -/

/-- A release action at a channel: the first line of R110's table that fits. -/
def releaseChannel (c : Side) (s : State) : SideResult × State :=
  match (s.channel c).state with
  | .fault => (.refused .inFault, s)
  | .isolated => (.refused .isolated, s)
  | .released => (.unchanged, s)
  | .locked | .warning | .closing | .recycle =>
    if s.active .zsp = false then (.refused .notStandstill, s)
    else if s.consist.state ≠ .placed then (.refused .noConsist, s)
    else (.accepted, enterReleased c s)

/-- What a close and a door reset share: a channel in FAULT outside the hold enters WARNING with its retry count 0; any
other is UNCHANGED (R112, R113). -/
def doorResetChannel (c : Side) (s : State) : SideResult × State :=
  if s.doorFault c then (.accepted, enterWarning c (clearRetries c s)) else (.unchanged, s)

/-- A close action at a channel (R112). -/
def closeChannel (c : Side) (s : State) : SideResult × State :=
  if (s.channel c).state = .released then (.accepted, enterWarning c s) else doorResetChannel c s

/-! ### Timer expiries (R115, R117, R118) -/

/-- The channel timer's expiry with the channel in state `st`; in any other state that timer does not run (R114). -/
def onChannelTimer (c : Side) (st : DoorState) (f : State → State) (s : State) : State :=
  if (s.channel c).state = st then onExpiry (s.channel c).timer f s else s

/-- The close timer expires: RECYCLE, or FAULT with the retries spent (R117). -/
def closeExpired (c : Side) (s : State) : State :=
  if (s.channel c).retries < s.itemN Item.maxRetries then enterRecycle c s else enterFault c .closeTimeout s

/-! ### Standstill, leaves and isolation (R119 to R122) -/

/-- The filtered ZSP becomes inactive: each RELEASED channel enters WARNING; AUTO_CLOSE is raised where one did (R119,
log 25). -/
def zspLost (s : State) : State :=
  let any := s.doors.a.state == .released || s.doors.b.state == .released
  let s := if s.doors.a.state = .released then enterWarning .a s else s
  let s := if s.doors.b.state = .released then enterWarning .b s else s
  raiseIf any .autoClose s

/-- A leaf of the channel opens (R120). -/
def leafOpens (c : Side) (n : Fin 4) (s : State) : State :=
  if n.val < s.leafCount c ∧ (s.channel c).state = .locked then enterFault c .leafOpened s else s

/-- A leaf of the channel closes (R116). -/
def leafCloses (c : Side) (n : Fin 4) (s : State) : State :=
  if n.val < s.leafCount c ∧ (s.channel c).state = .closing ∧ s.allClosed c then enterLocked c s else s

/-- The isolate input becomes active (R121); under the settling hold it is taken into account when the hold ends. -/
def isolateOn (c : Side) (s : State) : State := if (s.channel c).hold then s else enterIsolated c s

/-- The channel leaves ISOLATED: LOCKED with all leaves closed, otherwise FAULT (R122, log 24). -/
def leaveIsolated (c : Side) (s : State) : State :=
  if s.allClosed c then enterLocked c s else enterFault c .isolateRemoved s

/-- The isolate input becomes inactive (R122). -/
def isolateOff (c : Side) (s : State) : State :=
  if (s.channel c).state = .isolated ∧ s.leafCount c ≠ 0 then leaveIsolated c s else s

/-! ### The settling hold (R108) and leaf-count writes (R109) -/

/-- The hold ends where the last of the channel's inputs has settled, and the channel takes its state from the filtered
levels (R108). -/
def tryEndHold (c : Side) (s : State) : State :=
  if (s.channel c).hold ∧ s.channelSettled c then
    if s.active (.iso c) then clearCause c (enterIsolated c s)
    else if s.allClosed c then clearCause c (enterLocked c s)
    else enterFault c .settledOpen s
  else s

/-- The channel enters FAULT under the settling hold (R109). -/
def enterHold (c : Side) (s : State) : State := s.setChannel c ⟨.fault, true, none, 0, .settling⟩

/-- The channel takes a write of its side's leaf count, the new count already stored, `old` the count before (R109). -/
def leafCountWritten (c : Side) (old : Nat) (s : State) : State :=
  if s.leafCount c = 0 then
    -- a new count of 0; a hold that ends so leaves the cause NONE (log 27)
    enterIsolated c (if (s.channel c).hold then clearCause c s else s)
  else if old = 0 then
    if s.channelSettled c = false then enterHold c s
    else if s.active (.iso c) then s
    else leaveIsolated c s
  else if s.leafCount c = old then s
  else if (s.channel c).hold then tryEndHold c s
  else match (s.channel c).state with
    | .locked => if s.leafOpen c then enterFault c .leafOpened s else s
    | .closing => if s.allClosed c then enterLocked c s else s
    | .released | .warning | .recycle | .fault | .isolated => s

/-! ### Tone and chime (R124, R125) -/

/-- There is a tone demand: a channel in WARNING, or the chime timer runs. -/
def State.toneDemand (s : State) : Bool :=
  s.doors.a.state == .warning || s.doors.b.state == .warning || s.doors.chime.isSome

/-- The tone pattern item (R124). -/
def State.tonePattern (s : State) : TonePattern := if s.itemOn Item.tonePattern then .interrupted else .continuous

/-- A tone demand that begins now, from on (R124). -/
def newTone (s : State) : Tone :=
  ⟨s.now, s.tonePattern, true, if s.tonePattern = .interrupted then s.start tonePhaseTime else none⟩

/-- The tone demand at the end of an event: it begins, goes on unbroken, or ends (R124). -/
def settleTone (s : State) : State :=
  match s.toneDemand, s.doors.tone with
  | true, none => { s with doors := { s.doors with tone := some (newTone s) } }
  | false, some _ => { s with doors := { s.doors with tone := none } }
  | true, some _ => s
  | false, none => s

/-- A 500 ms phase of the INTERRUPTED pattern ends: TONE toggles, and the phases count on from the demand's beginning
(R124). -/
def tonePhaseEnds (t : Tone) (d : Nat) (s : State) : State :=
  let t' : Tone := { t with phaseOn := !t.phaseOn, phase := some (d + tonePhaseTime) }
  { s with doors := { s.doors with tone := some t' } }

/-- The phase timer of the tone expires; without one no phase ends (R124). -/
def tonePhaseExpired (s : State) : State :=
  match s.doors.tone with
  | none => s
  | some t =>
    match t.phase with
    | none => s
    | some d => tonePhaseEnds t d (s.reach d)

/-- A CHIME action (R97, R125). -/
def chime (param : Byte) (s : State) : State :=
  { s with doors := { s.doors with chime := if param = 0 then none else s.start (100 * param.toNat) } }

/-! ### The door fields of the survey (R130 to R133) -/

/-- A first field of the survey: written with `p` where it is 0 and the finding holds. -/
def firstField (field : Byte) (finding : Bool) (p : Byte) : Byte := if field = 0 ∧ finding then p else field

/-- The door unit's writes into a survey as the node at position `p`. -/
def doorFields (p : Byte) (s : State) (d : SurveyData) : SurveyData :=
  { d with
    flags := if s.doorsSecured then d.flags else d.flags &&& 0xFE#8
    firstOpen := firstField d.firstOpen (!s.doorsSecured) p
    firstFault := firstField d.firstFault (s.doorFault .a || s.doorFault .b) p }

end Sys2Proof.Machine
end

