-- ==== Sys2Proof/Machine/Heating.lean ====
section
/-! DEFINITION. The heating unit (file 08) and its part in the allocation (file 09): caps, effective target, energizer, raise
schedule, supply monitor, pass computation and HEAT SET. -/

namespace Sys2Proof.Machine

/-- The enabled stage count n_en: the enabled prefix of the stage table (R138). -/
def State.enabledStages (s : State) : Nat := (s.heat.stages.list.takeWhile (·.enabled)).length

/-- The sum of the enabled stages' nominal currents (R18, R138). -/
def State.stageCurrent (s : State) : Nat :=
  ((s.heat.stages.list.takeWhile (·.enabled)).map (·.current.toNat)).sum

/-! ### Caps and effective target (R144, R146) -/

/-- C_th: the warm cap while TH is active or not yet settled, 4 while it is inactive. -/
def State.capTh (s : State) : Nat := if s.inactive .th then 4 else s.itemN Item.warmCap

/-- C_door: while the doors are not secured, the number of the first enabled door-hold stage minus 1. -/
def State.capDoor (s : State) : Nat :=
  if s.doorsSecured then 4
  else match (s.heat.stages.list.takeWhile (·.enabled)).findIdx? (·.doorHold) with
    | some i => i
    | none => 4

/-- C_sup: 4 in NORMAL, 0 in SETTLING and SHED. -/
def State.capSup (s : State) : Nat := if s.heat.monitor = .normal then 4 else 0

/-- The smallest of the four caps and the enabled stage count: what R146 and R164 share. -/
def State.ceiling (s : State) : Nat :=
  min s.enabledStages (min s.capTh (min s.capDoor (min s.heat.cCmd s.capSup)))

/-- The effective target t_eff (R146). -/
def State.teff (s : State) : Nat := min s.heat.target s.ceiling

/-! ### The energizer (R147 to R151) -/

/-- The min-off timers with those of the stages from index `lo` up to index `hi` − 1 started (R148). -/
def startMinOff (s : State) (lo hi : Nat) : Tab Timer 4 :=
  ⟨[0, 1, 2, 3].map (fun i =>
    if lo ≤ i ∧ i < hi then s.startOrExpired (s.itemN Item.minOff) else s.heat.minOff.getD i none), by simp⟩

/-- The stages above level `l` are de-energized at once: their min-off timers start and any raise schedule is cleared
(R147). -/
def dropTo (l : Nat) (s : State) : State :=
  { s with heat := { s.heat with level := l, minOff := startMinOff s l s.heat.level, raise := none } }

/-- The due time of a new raise schedule made by an event other than a HEAT SET (R150). -/
def State.gapDue (s : State) : Nat :=
  match s.heat.raise with
  | some r => max (s.now + s.itemN Item.stageGap) r.due
  | none => s.now + s.itemN Item.stageGap

/-- The effective target worked out afresh at the end of an event and handed to the energizer (R146, R150). A t_eff the
event leaves unchanged does not touch a schedule. -/
def settleHeat (s : State) : State :=
  let te := s.teff
  let s := { s with scratch := { s.scratch with teff := te }, heat :=
    if te > s.heat.level ∧ te ≠ s.scratch.teff ∧ s.heat.restartBlock = false then
      { s.heat with raise := some ⟨s.gapDue, false⟩ }
    else s.heat }
  if te < s.heat.level then dropTo te s
  else if te = s.heat.level then { s with heat := { s.heat with raise := none } }
  else s

/-- Stage e + 1 is energized; the next stage becomes due one stage gap later, or the schedule ends (R151). -/
def energize (s : State) : State :=
  if s.heat.level < s.teff then
    { s with heat := { s.heat with
        level := s.heat.level + 1
        raise := if s.heat.level + 1 < s.teff then some ⟨s.now + s.itemN Item.stageGap, false⟩ else none } }
  else { s with heat := { s.heat with raise := none } }

/-- The due time of stage e + 1 arrives: energized at once, or left waiting for its min-off timer (R151). -/
def stageDue (r : Raise) (s : State) : State :=
  if s.heat.minOff.getD s.heat.level none = none then energize s
  else { s with heat := { s.heat with raise := some { r with waiting := true } } }

/-- The due time of a raise schedule arrives; one that waits already has had its due time (R151). -/
def dueArrives (s : State) : State :=
  match s.heat.raise with
  | none => s
  | some r => if r.waiting then s else stageDue r (s.reach r.due)

/-- The min-off timer of the stage at index `i` expires; that stage, due and waiting, is energized (R148, R151). -/
def minOffExpired (i : Nat) (s : State) : State :=
  let s := { s with heat := { s.heat with minOff := s.heat.minOff.set i none } }
  match s.heat.raise with
  | some r => if r.waiting ∧ i = s.heat.level then energize s else s
  | none => s

/-- The holdover timer restarts (R152). -/
def restartHoldover (s : State) : State :=
  { s with heat := { s.heat with holdover := s.start (1000 * s.itemN Item.holdover) } }

/-- The holdover timer expires (R152); the new target is worked out at the end of the event. -/
def holdoverExpired (s : State) : State :=
  raise .heatHoldover { s with heat := { s.heat with
    target := min s.heat.level (s.itemN Item.fallback), raise := none, holdover := none } }

/-! ### The supply monitor (R140 to R143) -/

/-- The monitor enters SHED (R142); the stages drop as t_eff is worked out at the end of the event. -/
def enterShed (s : State) : State :=
  raise .supplyShed { s with heat := { s.heat with monitor := .shed, raise := none, restartBlock := true } }

/-- The monitor enters NORMAL (R143). -/
def enterNormal (s : State) : State := { s with heat := { s.heat with monitor := .normal } }

/-- The thresholds applied to V_avg (R140, R141). -/
def applyThresholds (s : State) : State :=
  match s.heat.monitor with
  | .settling => if s.heat.vAvg ≥ s.itemN Item.restoreV then enterNormal s else enterShed s
  | .normal => if s.heat.vAvg < s.itemN Item.shedV then enterShed s else s
  | .shed => if s.heat.vAvg ≥ s.itemN Item.restoreV then enterNormal s else s

/-- A sample enters the window, and once eight are held V_avg and the monitor follow (R140). -/
def supplySample (v : Nat) (s : State) : State :=
  let w := s.heat.window ++ [v]
  let w := w.drop (w.length - 8)
  let s := { s with heat := { s.heat with window := w, sample := s.start samplePeriod } }
  if w.length = 8 then applyThresholds { s with heat := { s.heat with vAvg := w.sum / 8 } } else s

/-! ### The pass computation (R163 to R168) -/

/-- The voltage used (R165). -/
def State.voltageUsed (s : State) : Nat :=
  min (max s.heat.vAvg (s.itemN Item.vNom)) (s.itemN Item.vNom + s.itemN Item.vNom / 4)

/-- The scaled current of the stage at level `l` (R166). -/
def State.scaledCurrent (s : State) (l : Nat) : Nat :=
  ((s.heat.stages.getD (l - 1) blankStage).current.toNat * s.voltageUsed + s.itemN Item.vNom - 1) / s.itemN Item.vNom

/-- The eligible level E (R164). -/
def State.eligible (s : State) (demand : Nat) : Nat := min demand s.ceiling

/-- A count in a HEAT PASS, saturating at 255 (R167). -/
def satIncByte (b : Byte) : Byte := if b = 255 then 255 else b + 1

/-- The cycle record brought up to date (R163): the state with it, and whether the computation goes on. -/
def updateRecord (d : PassData) (s : State) : State × Bool :=
  if d.level = 1 then
    if s.heat.cycleRec = some d.cycle then (s, true)
    else ({ s with heat := { s.heat with cycleRec := some d.cycle, grant := 0 } }, true)
  else (s, s.heat.cycleRec = some d.cycle)

/-- The grant (R167). -/
def decideGrant (d : PassData) (s : State) : PassData × State :=
  if s.eligible d.demand.toNat ≥ d.level.toNat ∧ s.heat.grant + 1 = d.level.toNat then
    if s.scaledCurrent d.level.toNat ≤ d.residual.toNat then
      ({ d with residual := d.residual - wordItem (s.scaledCurrent d.level.toNat), granted := satIncByte d.granted },
       { s with heat := { s.heat with grant := d.level.toNat } })
    else ({ d with shortfall := satIncByte d.shortfall }, s)
  else (d, s)

/-- The pass computation in one event (R163 to R167). -/
def computePass (d : PassData) (s : State) : PassData × State :=
  if 1 ≤ d.level.toNat ∧ d.level.toNat ≤ 4 ∧ d.demand.toNat ≤ 4 then
    match updateRecord d s with
    | (s, true) => decideGrant d s
    | (s, false) => (d, s)
  else (d, s)

/-- The cycle record cleared (R163). -/
def clearCycleRecord (s : State) : State := { s with heat := { s.heat with cycleRec := none, grant := 0 } }

/-! ### HEAT SET (R149, R169) -/

/-- The target a HEAT SET gives (R169). -/
def State.heatSetTarget (s : State) (cycle : Byte) : Nat :=
  if s.holdsPosition ∧ s.heat.cycleRec = some cycle then s.heat.grant else 0

/-- The stagger step clamped into 50..5000 ms (R149). -/
def clampStagger (w : Word) : Nat := max 50 (min 5000 w.toNat)

/-- The heating unit takes a HEAT SET (R149, R169): target, holdover, restart block, and a new raise schedule at the
node's stagger, or what R146 and R147 give. -/
def takeHeatSet (d : HeatSetData) (s : State) : State :=
  let s := restartHoldover { s with heat := { s.heat with
    target := s.heatSetTarget d.cycle
    restartBlock := if s.heat.monitor = .normal then false else s.heat.restartBlock } }
  let te := s.teff
  let s := { s with scratch := { s.scratch with teff := te } }
  if s.heat.level < te ∧ s.heat.restartBlock = false then
    { s with heat := { s.heat with raise := some ⟨s.now + s.consist.position * clampStagger d.stagger, false⟩ } }
  else settleHeat s

end Sys2Proof.Machine
end

