-- ==== Sys2Proof/Machine/Consist.lean ====
section
/-! DEFINITION. The consist unit of every node (files 03, 04): the consist table and check, the node consist states,
presence and sense comparison, ROSTER, CONFIRM and SURVEY at a node, the conditions, and the outputs. -/

namespace Sys2Proof.Machine

/-! ### The consist table (R69) -/

/-- The record at position `p`; none for a position outside 1..32. -/
def recordAt (t : ConsistTable) (p : Nat) : Option CoachRecord := if p = 0 then none else t.getD (p - 1) none

/-- A record stored at position `p`: another position's record with the same identity is removed, and a record already at
`p` is replaced (R49, R63). -/
def storeRecord (p : Nat) (r : CoachRecord) (t : ConsistTable) : ConsistTable :=
  (t.map (fun x => match x with
    | some y => if y.identity = r.identity then none else some y
    | none => none)).set (p - 1) (some r)

/-- Every position 1..n holds a record. -/
def tableFilled (t : ConsistTable) (n : Nat) : Bool := (t.list.take n).all Option.isSome && n ≤ maxPosition

/-- The five bytes a position gives to the consist check (R71): the identity most significant byte first, and the
orientation byte. -/
def checkBytes (r : CoachRecord) : List Byte :=
  (CoachRecord.identityBytes r.identity).reverse ++ [byteOf (bit r.e2Leadward)]

/-- The consist check over positions 1..n (R71). -/
def consistCheck (t : ConsistTable) (n : Nat) : Word :=
  crc ((t.list.take n).flatMap (fun x => match x with
    | some r => checkBytes r
    | none => []))

/-- The node's own coach record, built now (R18). -/
def ownRecord (position : Nat) (leadEnd : End) (s : State) : CoachRecord :=
  { identity := s.identity
    position := byteOf position
    classFlags := byteOf (s.itemN Item.coachClass % 16 + 16 * bit (leadEnd == .e2) +
      32 * bit (s.itemOn Item.cabFitted) + 64 * bit (s.active .key))
    leaves := byteOf (s.leafCount .a + 16 * s.leafCount .b)
    stages := byteOf s.enabledStages
    current := wordItem s.stageCurrent }

/-- A table with one record. -/
def tableWith (p : Nat) (r : CoachRecord) : ConsistTable := emptyTable.set (p - 1) (some r)

/-! ### Node consist states (R43, R44, R76) -/

/-- The node gives up its position, leadward end and table, with N and the consist check 0 and the PLACING and lead-loss
timers stopped, and enters `st` (R44, R67); its cycle record is cleared (R163). -/
def losePosition (st : ConsistState) (s : State) : State :=
  clearCycleRecord { s with consist := { s.consist with
    state := st, position := 0, leadEnd := none, table := emptyTable, length := 0, check := 0,
    placing := none, leadLoss := none } }

/-- The node returns to UNPLACED (R44); one already UNPLACED changes nothing. -/
def returnToUnplaced (s : State) : State :=
  if s.consist.state = .unplaced then s else raise .unplaced (losePosition .unplaced s)

/-- The node enters PLACING at a position with a leadward end and its own record alone in its table (R48, R61). The
lead-loss timer stops as the node leaves PLACED or STALE (R77); the cycle record is cleared (R163). -/
def enterPlacing (position : Nat) (leadEnd : End) (placing : Timer) (s : State) : State :=
  clearCycleRecord { s with consist := { s.consist with
    state := .placing, position := position, leadEnd := some leadEnd,
    table := tableWith position (ownRecord position leadEnd s), length := 0, check := 0,
    placing := placing, leadLoss := none } }

/-- The PLACING timer started for three call windows (R65). -/
def startPlacing (s : State) : State :=
  { s with consist := { s.consist with placing := s.start (3 * s.itemN Item.callWindow) } }

/-- The lead-loss timer started or restarted (R77). -/
def startLeadLoss (s : State) : State :=
  { s with consist := { s.consist with leadLoss := s.start (s.itemN Item.leadLoss) } }

/-- The node enters PLACED and raises PLACED (R56, R64). -/
def enterPlaced (s : State) : State :=
  raise .placed { s with consist := { s.consist with state := .placed, placing := none } }

/-- A node in PLACED enters STALE and raises STALE; any other node is not changed (R76). -/
def enterStale (s : State) : State :=
  if s.consist.state = .placed then raise .stale { s with consist := { s.consist with state := .stale } } else s

/-- The lead-loss timer expires (R77). -/
def leadLossExpired (s : State) : State :=
  raise .leadLost (enterStale { s with consist := { s.consist with leadLoss := none } })

/-- The source position of an outward frame handed to the consist unit (R27, R77). -/
def handSource (src : Byte) (s : State) : State :=
  if src = 1 ∧ s.placedOrStale ∧ s.lead.role = false then startLeadLoss s else s

/-! ### Presence and sense comparison (R72 to R75) -/

/-- What the comparison of an end comes to (R74). -/
def comparisonOf (sense present : Bool) : Comparison :=
  match sense, present with
  | true, true => .agree
  | false, false => .agree
  | true, false => .segmentFault
  | false, true => .senseMismatch

/-- The comparison of an end re-made, once the hold-off has expired and its sense has settled; an event is raised where
the comparison becomes its value (R74, R176). -/
def compareEnd (e : End) (s : State) : State :=
  if s.consist.holdOff = none ∧ s.settled (.cpl e) then
    let new := comparisonOf (s.active (.cpl e)) (s.alive e)
    let changed := s.comparison e ≠ new
    raiseIf (changed ∧ new = .segmentFault) .segmentFault
      (raiseIf (changed ∧ new = .senseMismatch) .senseMismatch (s.setComparison e new))
  else s

/-- The presence of an end has changed: a PLACED node enters STALE, and the comparison is re-made (R73, R74). -/
def presenceChanged (e : End) (s : State) : State := compareEnd e (enterStale s)

/-- A frame has passed its checks on an end port: the silence timer starts or restarts; a port that was not alive becomes
alive, and its presence changes (R11, R72). -/
def restartSilence (e : End) (s : State) : State :=
  let was := s.alive e
  let s := s.setEnd e { s.endUnit e with silence := s.start (s.itemN Item.silence) }
  if was then s else presenceChanged e s

/-! ### ROSTER and CONFIRM at a node (R63, R64) -/

/-- One entry of a ROSTER, for position `p` (R63; log 23 for position 0). -/
def rosterEntry (s : State) (p : Nat) (r : CoachRecord) (t : ConsistTable) : ConsistTable :=
  if p = 0 ∨ p > maxPosition ∨ p = s.consist.position ∨ r.identity = s.identity then t else storeRecord p r t

/-- The entries of a ROSTER in order, from position `p` on. -/
def rosterEntries (s : State) (p : Nat) : List CoachRecord → ConsistTable → ConsistTable
  | [], t => t
  | r :: rest, t => rosterEntries s (p + 1) rest (rosterEntry s p r t)

/-- A ROSTER at the consist unit: stored in PLACING, and by no other node (R63). -/
def takeRoster (payload : List Byte) (s : State) : State :=
  if s.consist.state = .placing then
    { s with consist := { s.consist with
      table := rosterEntries s (byteAt payload 0).toNat
        (CoachRecord.listOf (byteAt payload 1).toNat (payload.drop 2)) s.consist.table } }
  else s

/-- The node agrees with a CONFIRM (R64). -/
def confirmAgrees (d : ConfirmData) (s : State) : Bool :=
  1 ≤ d.length.toNat && d.length.toNat ≤ maxPosition && s.consist.position ≤ d.length.toNat &&
    tableFilled s.consist.table d.length.toNat && consistCheck s.consist.table d.length.toNat == d.check

/-- A CONFIRM at the consist unit of a node in PLACING: it is placed, or writes first-mismatch and restarts its PLACING
timer. A node in PLACED or STALE writes nothing and keeps its state (R64). -/
def takeConfirm (d : ConfirmData) (s : State) : ConfirmData × State :=
  if s.consist.state = .placing then
    if confirmAgrees d s then
      (d, startLeadLoss (enterPlaced { s with consist := { s.consist with
        table := s.consist.table.keep d.length.toNat none, length := d.length.toNat, check := d.check } }))
    else ({ d with mismatch := firstField d.mismatch true s.sourceByte }, startPlacing s)
  else (d, s)

/-! ### SURVEY at a node (R80, R81, R130, R180) -/

/-- The survey agrees with the node's consist (R80). -/
def surveyAgrees (hop : Nat) (d : SurveyData) (s : State) : Bool :=
  hop + 1 == s.consist.position && d.length.toNat == s.consist.length && d.check == s.consist.check

/-- The consist unit's first-stale and first-break writes as position `p` (R79, R81). -/
def consistFields (p : Byte) (s : State) (d : SurveyData) : SurveyData :=
  { d with
    firstStale := firstField d.firstStale (s.consist.state == .stale) p
    firstBreak := firstField d.firstBreak (s.anyComparison .segmentFault) p }

/-- The notice enables as one set in the event order (items 33 and 34). -/
def State.notices (s : State) : BitVec 20 := (s.item Item.noticeHigh).setWidth 4 ++ s.item Item.noticeLow

/-- The event set holds an event whose notice enable is on (R180). -/
def State.noticed (s : State) : Bool := s.events &&& s.notices ≠ 0

/-- The local line block's first-event write as position `p`, `noticed` being whether its event set held an event with its
notice enable on (R180). -/
def eventField (p : Byte) (noticed : Bool) (d : SurveyData) : SurveyData :=
  { d with firstEvent := firstField d.firstEvent noticed p }

/-- The writes that every node which takes part, and the lead as position 1, makes into a survey (R79, R81, R130,
R180). -/
def surveyFindings (p : Byte) (noticed : Bool) (s : State) (d : SurveyData) : SurveyData :=
  eventField p noticed (doorFields p s (consistFields p s d))

/-- A SURVEY at a node in PLACED or STALE: the test of R80, made before any field is written, and the writes (R81). The
event set is read as it stands when the frame is taken, before the test: the STALE that this survey raises is in the next
survey's first-event (R180; log 37). -/
def takeSurvey (hop : Nat) (d : SurveyData) (s : State) : SurveyData × State :=
  let noticed := s.noticed
  let s := if surveyAgrees hop d s then s else enterStale s
  ({ surveyFindings s.sourceByte noticed s d with endPosition := s.sourceByte }, s)

/-! ### Conditions (R176) -/

/-- The truth of a condition event's condition; an edge event has none. -/
def State.condition (s : State) : Event → Bool
  | .doorFaultA => s.doorFault .a
  | .doorFaultB => s.doorFault .b
  | .supplyShed => s.heat.monitor == .shed
  | .segmentFault => s.anyComparison .segmentFault
  | .senseMismatch => s.anyComparison .senseMismatch
  | .conflict => s.consist.state == .conflict
  | .cpl1Change | .cpl2Change | .placed | .unplaced | .stale | .leadLost | .autoClose | .doorRecycle
  | .heatHoldover | .lineError | .queueOverflow | .storeDone | .storeInvalid | .reset => false

/-! ### Outputs (R106, R124, R127, R147, R174) -/

/-- The switched outputs, and the LOOP contact. A heating output is numbered 0..3 for HEAT1..HEAT4. -/
inductive Output where
  | release (c : Side)
  | close (c : Side)
  | tone
  | loop
  | heat (n : Fin 4)
deriving DecidableEq, Repr

/-- The level of an output; for LOOP, true is closed. All are off, and LOOP open, while a reset lasts. -/
def State.output (s : State) (o : Output) : Bool :=
  if s.supplyLow then false
  else match o with
    | .release c => (s.channel c).state == .released || (s.channel c).state == .warning
    | .close c => (s.channel c).state == .closing
    | .tone => match s.doors.tone with
      | some t => t.phaseOn
      | none => false
    | .loop => s.doorsSecured
    | .heat n => n.val < s.heat.level

/-- The outputs in the bit order of item 83. -/
def allOutputs : List Output :=
  [.release .a, .release .b, .close .a, .close .b, .tone, .loop, .heat 0, .heat 1, .heat 2, .heat 3]

end Sys2Proof.Machine
end

