-- ==== Sys2Proof/Machine/Lead.lean ====
section
/-! DEFINITION. The lead machine (file 03), the survey at the lead (file 04), the allocation sequencer (file 09), and the
frames they originate. -/

namespace Sys2Proof.Machine

/-! ### Originating a frame (R36) -/

/-- A frame of the lead offered to its outward end's queue; a lead that is the end node puts nothing on the line. -/
def originate (kind : Kind) (payload : List Byte) (s : State) : State :=
  if s.endNode then s else offerEnd s.outwardEnd (leadFrame kind payload) defaultRate s

/-! ### LEAD STATUS (R59, R85, R162) -/

def leadStateCode : LeadState → Nat
  | .standby => 0
  | .calling => 1
  | .rostering => 2
  | .confirming => 3
  | .leading => 4
  | .failed => 5

def reasonCode : Reason → Nat
  | .none => 0
  | .noTail => 1
  | .gaps => 2
  | .conflict => 3
  | .leadNotAtEnd => 4
  | .confirm => 5
  | .stopped => 6
  | .tooLong => 7

def consistStateCode : ConsistState → Nat
  | .unplaced => 0
  | .placing => 1
  | .placed => 2
  | .stale => 3
  | .conflict => 4

def cycleResultCode : CycleResult → Nat
  | .none => 0
  | .complete => 1
  | .timeout => 2
  | .abandoned => 3

/-- The 22 bytes of LEAD STATUS (R21). -/
def leadStatusPayload (s : State) : List Byte :=
  let r := s.survey.record
  [byteOf (leadStateCode s.lead.state), byteOf (reasonCode s.lead.reason),
    byteOf (consistStateCode s.consist.state), byteOf s.consist.length] ++ wordBytes s.consist.check ++
  [r.number, byteOf (bit r.allSecured + 2 * bit s.survey.foundStale), r.endPosition, r.firstOpen, r.firstFault,
    r.firstStale, r.firstBreak, r.firstEvent, byteOf s.survey.misses,
    s.seq.last.number, byteOf (cycleResultCode s.seq.last.result), byteOf s.seq.last.level] ++
  wordBytes s.seq.last.fields.residual ++ [s.seq.last.fields.granted, s.seq.last.fields.shortfall]

/-- The LEAD STATUS frame as the node now stands (R59). -/
def leadStatusFrame (s : State) : Frame := mkFrame .leadStatus true false 0 0 s.sourceByte (leadStatusPayload s)

/-- A LEAD STATUS is owed at the end of the event. -/
def oweStatus (s : State) : State := { s with scratch := { s.scratch with statusDue := true } }

/-- The LEAD STATUS of a miss that a survey evaluation has followed in the same event: it repeats the last survey record
with the miss count raised (R85, R136; log 36). -/
def flushMiss (s : State) : State :=
  match s.scratch.missed with
  | some u => offer .cab (leadStatusFrame { s with survey := u }) defaultRate s
  | none => s

/-- The LEAD STATUS owed is built and offered to the cab port, once the event has been handled in full (R59). -/
def flushStatus (s : State) : State :=
  if s.scratch.statusDue then offer .cab (leadStatusFrame s) defaultRate (flushMiss s) else s

/-- The lead state and failure reason set; a change of either calls for a LEAD STATUS (R59). -/
def setLead (st : LeadState) (r : Reason) (s : State) : State :=
  { s with
    lead := { s.lead with state := st, reason := r }
    scratch := { s.scratch with
      statusDue := s.scratch.statusDue || st != s.lead.state || r != s.lead.reason } }

/-! ### The allocation sequencer (R157 to R162) -/

/-- The cycle in flight ends; the last cycle record is replaced whole (R162). -/
def endCycle (result : CycleResult) (c : Cycle) (f : Reflected) (s : State) : State :=
  { s with seq := { s.seq with
    cycle := none, passTimer := none, reflected := none, last := ⟨s.seq.number, result, c.level, f⟩ } }

/-- The last reflected fields of the cycle in flight, or 0, 0 and 0 (R160, R161). -/
def State.reflectedOrZero (s : State) : Reflected := s.seq.reflected.getD ⟨0, 0, 0⟩

/-- A cycle in flight is abandoned, and the sequencer's timers stop (R161). -/
def abandonCycle (s : State) : State :=
  let s := match s.seq.cycle with
    | some c => endCycle .abandoned c s.reflectedOrZero s
    | none => s
  { s with seq := { s.seq with periodTimer := none, passTimer := none } }

/-- The cycle ends with a HEAT SET, which the lead's own heating unit takes as it is built (R159). -/
def completeCycle (c : Cycle) (f : Reflected) (s : State) : State :=
  let d : HeatSetData := ⟨s.seq.number, s.item Item.stagger⟩
  endCycle .complete c f (takeHeatSet d (originate .heatSet d.payload s))

/-- The pass that ends its cycle (R159). -/
def lastPass (c : Cycle) (f : Reflected) : Bool := f.shortfall != 0 || f.granted == 0 || c.level == 4

/-- A level of the cycle is sent (R158): the lead's own computation as position 1, and the HEAT PASS. A lead that is the
end node takes the reflected pass in the same event and goes on; `fuel` bounds the levels. -/
def sendLevels : Nat → Cycle → Word → State → State
  | 0, _, _, s => s
  | fuel + 1, c, residual, s =>
    let (d, s) := computePass ⟨s.seq.number, byteOf c.level, residual, 0, 0, byteOf c.demand⟩ s
    let s := { s with seq := { s.seq with cycle := some c } }
    if s.endNode then
      let f : Reflected := ⟨d.residual, d.granted, d.shortfall⟩
      let s := { s with seq := { s.seq with passTimer := none, reflected := some f } }
      if lastPass c f then completeCycle c f s
      else sendLevels fuel { c with level := c.level + 1 } f.residual s
    else
      let s := { s with seq := { s.seq with passTimer := s.start (s.itemN Item.passTimeout) } }
      offerEnd s.outwardEnd (leadFrame .heatPass d.payload) defaultRate s

/-- A cycle starts (R157, R158). -/
def startCycle (s : State) : State :=
  let s := { s with seq := { s.seq with number := s.seq.number + 1, reflected := none } }
  sendLevels 4 ⟨1, s.seq.budget, s.seq.demand⟩ (wordItem s.seq.budget) s

/-- A reflected HEAT PASS at the sequencer (R159): any but that of the current level of the cycle in flight is
disregarded. -/
def takeReflectedPass (d : PassData) (s : State) : State :=
  match s.seq.cycle with
  | some c =>
    if d.cycle = s.seq.number ∧ d.level.toNat = c.level then
      let f : Reflected := ⟨d.residual, d.granted, d.shortfall⟩
      let s := { s with seq := { s.seq with passTimer := none, reflected := some f } }
      if lastPass c f then completeCycle c f s
      else sendLevels 4 { c with level := c.level + 1 } f.residual s
    else s
  | none => s

/-- The heating period timer started with the working heating period (R157). -/
def startHeatingPeriod (s : State) : State :=
  { s with seq := { s.seq with periodTimer := s.start (1000 * s.seq.period) } }

/-- The heating period timer expires (R157). -/
def heatingPeriodExpired (s : State) : State :=
  let s := startHeatingPeriod s
  if s.seq.cycle = none then startCycle s else s

/-- The pass timer expires (R160). -/
def passTimedOut (s : State) : State :=
  match s.seq.cycle with
  | some c => endCycle .timeout c s.reflectedOrZero s
  | none => { s with seq := { s.seq with passTimer := none } }

/-- The working setup loaded from the default items (R156). -/
def loadSetup (s : State) : State :=
  { s with seq := { s.seq with
    budget := s.itemN Item.defaultBudget, demand := s.itemN Item.defaultDemand, period := s.itemN Item.defaultPeriod } }

/-! ### Leaving and reaching LEADING (R56, R78, R161) -/

/-- What stops as the lead machine leaves LEADING by any path: survey origination and the allocation (R78, R161). -/
def stopLeading (s : State) : State :=
  abandonCycle { s with survey := { s.survey with period := none, outstanding := none } }

/-- The survey period timer started (R78). -/
def startSurveyPeriod (s : State) : State :=
  { s with survey := { s.survey with period := s.start (s.itemN Item.surveyPeriod) } }

/-- The lead enters LEADING (R56): PLACED, and survey origination and allocation cycles begin. -/
def enterLeading (s : State) : State :=
  let s := enterPlaced { s with lead := { s.lead with window := none, attempt := 1, round := 1 } }
  let s := startSurveyPeriod { (setLead .leading .none s) with survey := { s.survey with misses := 0 } }
  startCycle (startHeatingPeriod s)

/-! ### Confirm rounds (R53 to R55) -/

/-- The call window timer started (R48, R52, R53). -/
def startWindow (s : State) : State :=
  { s with lead := { s.lead with window := s.start (s.itemN Item.callWindow) } }

/-- The lead machine enters FAILED with the node still PLACING, where it is: its PLACING timer starts (R57, R65). -/
def failLead (r : Reason) (s : State) : State :=
  let s := setLead .failed r { s with lead := { s.lead with window := none, sendList := [] } }
  if s.consist.state = .placing then startPlacing s else s

/-- The ten bytes of a place of the consist table: zeros where it holds no record (R184). -/
def placeBytes : Option CoachRecord → List Byte
  | some r => r.bytes
  | none => List.replicate 10 0

/-- The ROSTER frames over the places of a table, four positions each, from position `first` on (R53); `fuel` bounds their
number. -/
def rosterFrames : Nat → Nat → List (Option CoachRecord) → List Frame
  | 0, _, _ => []
  | _ + 1, _, [] => []
  | fuel + 1, first, x :: xs =>
    let now := (x :: xs).take 4
    leadFrame .roster ([byteOf first, byteOf now.length] ++ now.flatMap placeBytes) ::
      rosterFrames fuel (first + 4) ((x :: xs).drop 4)

/-- The outward queue has a free slot. -/
def State.outwardSlot (s : State) : Bool :=
  match s.outwardEnd with
  | some e => s.hasSlot (.line e)
  | none => false

/-- The frames of the send list offered from its head on, as many as there are free slots; a ROSTER that the lead consumes
as end node takes no slot (R53, R54). -/
def offerList : List Frame → State → State
  | [], s => { s with lead := { s.lead with sendList := [] } }
  | f :: rest, s =>
    if f.kind = .roster ∧ s.endNode then offerList rest s
    else if s.outwardSlot then offerList rest (offerEnd s.outwardEnd f defaultRate s)
    else { s with lead := { s.lead with sendList := f :: rest } }

/-- The CONFIRM the lead builds (R54). -/
def State.confirmData (s : State) : ConfirmData := ⟨byteOf s.consist.length, s.consist.check, 0⟩

/-- The send list drains; with its last ROSTER offered the lead machine enters CONFIRMING and builds the CONFIRM, which is
reflected within a lead whose outward neighbour is no longer present (R53, R54): then it is the second component. -/
def drainList (s : State) : State × Option ConfirmData :=
  let s := offerList s.lead.sendList s
  if s.lead.state = .rostering ∧ s.lead.sendList = [] then
    let s := setLead .confirming s.lead.reason s
    if s.outwardPresent then (offerList [leadFrame .confirm s.confirmData.payload] s, none)
    else (s, some s.confirmData)
  else (s, none)

/-- A confirm round begins: the window, the consist check and the send list (R53). -/
def startRound (s : State) : State :=
  let s := setLead .rostering s.lead.reason (startWindow s)
  { s with
    consist := { s.consist with check := consistCheck s.consist.table s.consist.length }
    lead := { s.lead with sendList := rosterFrames 8 1 (s.consist.table.list.take s.consist.length) } }

/-- The tests of R55 on a reflected CONFIRM. -/
def confirmGood (hop : Nat) (d : ConfirmData) (s : State) : Bool :=
  d.mismatch == 0 && hop == s.consist.length && d.length.toNat == s.consist.length && d.check == s.consist.check

/-- A confirm round begins, and is evaluated in the same event where its CONFIRM is reflected within the lead; `fuel`
bounds the rounds. -/
def beginRounds : Nat → State → State
  | 0, s => failLead .confirm s
  | fuel + 1, s =>
    match drainList (startRound s) with
    | (s, none) => s
    | (s, some d) =>
      if confirmGood 1 d s then enterLeading s
      else if s.lead.round < 3 then beginRounds fuel { s with lead := { s.lead with round := s.lead.round + 1 } }
      else failLead .confirm s

/-- A confirm round fails (R55): a new round, or FAILED after the third. -/
def roundFailed (s : State) : State :=
  if s.lead.round < 3 then
    beginRounds 3 { s with lead := { s.lead with window := none, sendList := [], round := s.lead.round + 1 } }
  else failLead .confirm s

/-- A reflected CONFIRM at the lead machine (R55, R60). -/
def takeReflectedConfirm (hop : Nat) (d : ConfirmData) (s : State) : State :=
  if s.lead.state = .confirming then
    let s := { s with lead := { s.lead with window := none } }
    if confirmGood hop d s then enterLeading s else roundFailed s
  else s

/-- The outward queue has given up a frame: the send list goes on (R53). It is empty outside ROSTERING and CONFIRMING, but
for a CONFIRM that still waits where a late reflection of an earlier round has made the lead LEADING: R56 does not say
that the list is emptied, nor R58 as a STOP then takes the lead to STANDBY, and the model sends it still (log 35). -/
def sendListGoesOn (s : State) : State :=
  if s.lead.sendList = [] then s
  else match drainList s with
    | (s, none) => s
    | (s, some d) => takeReflectedConfirm 1 d s

/-! ### CALLING (R47 to R52) -/

/-- A CALL offered to the outward queue (R48, R52). -/
def sendCall (attempt : Nat) (s : State) : State :=
  offerEnd s.outwardEnd (leadFrame .call [byteOf attempt]) defaultRate s

/-- The lead enters CALLING; a single-coach train goes on to LEADING in the same event (R48). -/
def enterCalling (leadEnd : End) (s : State) : State :=
  let s := setLead .calling s.lead.reason (enterPlacing 1 leadEnd none s)
  if s.outwardPresent then sendCall 1 (startWindow s)
  else enterLeading { s with consist := { s.consist with length := 1, check := consistCheck s.consist.table 1 } }

/-- The end named by the cab-end item. -/
def State.cabEnd (s : State) : End := if s.itemOn Item.cabEnd then .e2 else .e1

/-- A roll call starts (R47). -/
def startRollCall (s : State) : State :=
  let s := stopLeading s
  let s := { s with lead := { s.lead with
    sendList := [], window := none, conflictId := 0, attempt := 1, round := 1 } }
  let s := setLead s.lead.state .none s
  match s.alive .e1, s.alive .e2 with
  | true, true => returnToUnplaced (setLead .failed .leadNotAtEnd s)
  | false, true => enterCalling .e1 s
  | true, false => enterCalling .e2 s
  | false, false => enterCalling s.cabEnd s

/-- A roll call started by the auto-recall item with ZSP active (R82, R84). -/
def State.recalls (s : State) : Bool := s.itemOn Item.autoRecall && s.active .zsp

/-- A call attempt fails (R52). -/
def failAttempt (r : Reason) (s : State) : State :=
  if s.lead.attempt < 3 then
    let s := startWindow { s with
      lead := { s.lead with attempt := s.lead.attempt + 1 }
      consist := { s.consist with table := s.consist.table.keep 1 none } }
    if s.outwardPresent then sendCall s.lead.attempt s else s
  else failLead r s

/-- An ANSWER at the lead machine (R49, R60). -/
def takeAnswer (payload : List Byte) (s : State) : State :=
  let r := CoachRecord.ofBytes payload
  if s.lead.state = .calling ∧ 2 ≤ r.position.toNat ∧ r.position.toNat ≤ maxPosition ∧ r.identity ≠ s.identity then
    { s with consist := { s.consist with table := storeRecord r.position.toNat r s.consist.table } }
  else s

/-- A TAIL at the lead machine (R50, R51, R60). -/
def takeTail (d : TailData) (s : State) : State :=
  if s.lead.state = .calling then
    let s := { s with lead := { s.lead with window := none } }
    if d.conflict then
      returnToUnplaced (setLead .failed .conflict { s with lead := { s.lead with conflictId := d.identity } })
    else if d.overflow then failLead .tooLong s
    else if 2 ≤ d.last.toNat ∧ tableFilled s.consist.table d.last.toNat then
      beginRounds 3 { s with
        consist := { s.consist with table := s.consist.table.keep d.last.toNat none, length := d.last.toNat }
        lead := { s.lead with round := 1 } }
    else failAttempt .gaps s
  else s

/-- The call window timer expires (R52, R55). -/
def windowExpired (s : State) : State :=
  let s := { s with lead := { s.lead with window := none } }
  match s.lead.state with
  | .calling => failAttempt .noTail s
  | .rostering | .confirming => roundFailed s
  | .standby | .leading | .failed => s

/-! ### The lead role, STOP and conflict (R45, R46, R58, R67) -/

/-- The node takes the lead role: the working setup is loaded and the lead-loss timer stops (R45, R77, R156). -/
def takeRole (s : State) : State :=
  loadSetup { s with
    lead := { s.lead with role := true }
    consist := { s.consist with leadLoss := none } }

/-- The role taken, where it is not held, and a roll call started (R45). -/
def leadRollCall (s : State) : State := startRollCall (if s.lead.role then s else takeRole s)

/-- The filtered KEY becomes active (R45). -/
def keyActive (s : State) : State := if s.itemOn Item.autoStart then leadRollCall s else s

/-- The filtered KEY becomes inactive: a lead loses the role (R46). The last LEAD STATUS is built as every one is, at the
end of the event, so that of a lead in CONFLICT shows UNPLACED with state STANDBY: R59 says both that it is built when the
event has been handled in full and that it is built before the role lapses (log 34). -/
def keyInactive (s : State) : State :=
  if s.lead.role then
    let s := stopLeading s
    let s := { s with lead := { s.lead with
      role := false, window := none, sendList := [], attempt := 1, round := 1 } }
    let s := oweStatus (setLead .standby s.lead.reason s)
    match s.consist.state with
    | .placing => startPlacing s
    | .placed | .stale => startLeadLoss s
    | .conflict => returnToUnplaced s
    | .unplaced => s
  else s

/-- An accepted STOP (R58). In LEADING it leaves the roster send list as it is, since R58 empties it in CALLING, ROSTERING
and CONFIRMING alone: a CONFIRM that still waits there is sent from STANDBY (DESIGN CHOICE, log 35). -/
def stopLead (s : State) : State :=
  match s.lead.state with
  | .calling | .rostering | .confirming => failLead .stopped s
  | .leading => setLead .standby s.lead.reason (stopLeading s)
  | .standby | .failed => s

/-- A TAIL of this node offered to the queue of the end its CALL arrived on (R62). -/
def sendTail (e : End) (d : TailData) (s : State) : State :=
  offer (.line e) (mkFrame .tail true false 0 1 s.sourceByte d.payload) defaultRate s

/-- A CALL reaches the roll call of a node that holds the lead role (R67). -/
def takeConflict (e : End) (hop : Nat) (s : State) : State :=
  let s := stopLeading s
  let s := setLead .failed .conflict { s with lead := { s.lead with window := none, sendList := [] } }
  let new := s.consist.state != .conflict
  let s := raiseIf new .conflict (losePosition .conflict s)
  sendTail e ⟨byteOf (min (hop + 1) maxPosition), false, true, s.identity⟩ s

/-- The frame with its hop written and its check recomputed (R28, R35). -/
def Frame.withHop (f : Frame) (p : Nat) : Frame :=
  Frame.recheck { f with flags := flagsByte f.leadward f.reflected p }

/-- A CALL places a node that does not hold the lead role (R61), or finds no position left for it (R66). -/
def placeByCall (e : End) (f : Frame) (rate : LineRate) (s : State) : State :=
  if f.hop = 0 then s
  else if f.hop ≥ maxPosition then sendTail e ⟨byteOf maxPosition, true, false, 0⟩ (returnToUnplaced s)
  else
    let s := startPlacing (enterPlacing (f.hop + 1) e none s)
    let s := offer (.line e)
      (mkFrame .answer true false 0 1 s.sourceByte (ownRecord (f.hop + 1) e s).bytes) defaultRate s
    if s.alive e.other then offer (.line e.other) (f.withHop (f.hop + 1)) rate s
    else sendTail e ⟨byteOf (f.hop + 1), false, false, 0⟩ s

/-- A CALL at roll call (R61, R66, R67). -/
def takeCall (e : End) (f : Frame) (rate : LineRate) (s : State) : State :=
  if s.lead.role then takeConflict e f.hop s else placeByCall e f rate s

/-! ### The survey at the lead (R78, R79, R82 to R84) -/

/-- A miss is counted (R82); the auto-recall of the third is `missRecalls`. -/
def countMiss (s : State) : State :=
  let third := s.survey.misses = 2
  let s := oweStatus { s with survey := { s.survey with misses := min 3 (s.survey.misses + 1), outstanding := none } }
  if third then raise .leadLost (enterStale s) else s

/-- The miss about to be counted is the third, and starts a roll call (R82). -/
def State.missRecalls (s : State) : Bool := s.survey.misses = 2 && s.recalls

/-- The survey finds the consist stale (R84). -/
def findsStale (d : SurveyData) (s : State) : Bool :=
  d.endPosition.toNat ≠ s.consist.length || d.firstStale ≠ 0

/-- The last survey record of a reflected survey (R83). -/
def recordOf (d : SurveyData) : SurveyRecord :=
  ⟨d.number, d.allSecured, d.endPosition, d.firstOpen, d.firstFault, d.firstStale, d.firstBreak, d.firstEvent⟩

/-- Before an evaluation: a LEAD STATUS owed already is that of a miss counted in this event (R78, R82), and is sent with
the survey state the miss has left. -/
def keepMiss (s : State) : State :=
  { s with scratch := { s.scratch with missed := if s.scratch.statusDue then some s.survey else none } }

/-- A roll call started by auto-recall: the event then gives one LEAD STATUS in all (R85; log 36). -/
def autoRecall (s : State) : State := startRollCall { s with scratch := { s.scratch with missed := none } }

/-- A reflected SURVEY at the lead's consist unit (R83, R84): evaluated where it is the outstanding one. -/
def takeReflectedSurvey (d : SurveyData) (s : State) : State :=
  if s.lead.state = .leading ∧ s.survey.outstanding = some d.number then
    let found := findsStale d s
    let s := keepMiss s
    let s := oweStatus { s with survey := { s.survey with
      outstanding := none, misses := 0, record := recordOf d, foundStale := found } }
    if found then
      let s := enterStale s
      if s.recalls then autoRecall s else s
    else s
  else s

/-- The SURVEY the lead builds, with its own contribution as position 1 (R79). -/
def State.builtSurvey (s : State) : SurveyData :=
  surveyFindings 1 s.noticed s ⟨s.survey.number, byteOf s.consist.length, s.consist.check, 1, 1, 0, 0, 0, 0, 0⟩

/-- The next SURVEY is built and sent, or reflected within a lead that is the end node (R78, R36). -/
def sendSurvey (s : State) : State :=
  let s := { s with survey := { s.survey with
    number := s.survey.number + 1, outstanding := some (s.survey.number + 1) } }
  if s.endNode then takeReflectedSurvey s.builtSurvey s
  else offerEnd s.outwardEnd (leadFrame .survey s.builtSurvey.payload) defaultRate s

/-- The survey period timer expires (R78): the outstanding survey is settled, and the next is sent, unless the miss has
started a roll call (log 19). -/
def surveyPeriodExpired (s : State) : State :=
  let s := startSurveyPeriod s
  if s.survey.outstanding.isSome then
    if s.missRecalls then autoRecall (countMiss s) else sendSurvey (countMiss s)
  else sendSurvey s

end Sys2Proof.Machine
end

