-- ==== Sys2Proof/Machine/Inputs.lean ====
section
/-! DEFINITION. The discrete inputs and their filters (file 10, R172, R173), and what each change and first settling hands
to the units. -/

namespace Sys2Proof.Machine

/-- A raw edge: the stability timer starts or restarts (R172). A level that is already there is no edge. While a SUPPLY
reset lasts only the level at the pin follows; the timers start at its end (R173; log 14). -/
def rawEdgeAt (i : Input) (active : Bool) (s : State) : State :=
  let l := s.input i
  if active = l.raw then s
  else s.setInput i { l with
    raw := active, timer := if s.supplyLow then l.timer else s.start (s.itemN (Item.filter i)) }

/-- A change of the filtered level, handed to the units that read the input (R45, R46, R74, R75, R116, R119 to R122). -/
def inputChanged (i : Input) (level : Bool) (s : State) : State :=
  match i with
  | .cpl e => compareEnd e (raise (cplChange e) s)
  | .key => if level then keyActive s else keyInactive s
  | .zsp => if level then s else zspLost s
  | .iso c => if level then isolateOn c s else isolateOff c s
  | .leaf c n => if level then leafCloses c n s else leafOpens c n s
  | .th => s

/-- A leaf settles for the first time: it brings the settling hold to its end, and outside the hold it closes or opens, since
its filtered level becomes active or inactive (R105, R108, R116, R120, R173; log 24). -/
def leafSettled (c : Side) (n : Fin 4) (level : Bool) (s : State) : State :=
  if (s.channel c).hold then tryEndHold c s else if level then leafCloses c n s else leafOpens c n s

/-- The first settling of an input, handed to the units that read it (R45, R74, R108, R173). -/
def inputSettled (i : Input) (level : Bool) (s : State) : State :=
  match i with
  | .cpl e => compareEnd e s
  | .key => if level then keyActive s else s
  | .iso c => tryEndHold c s
  | .leaf c n => leafSettled c n level s
  | .zsp => s
  | .th => s

/-- The stability timer of an input expires (R172, R173). -/
def stabilityExpired (i : Input) (s : State) : State :=
  let l := s.input i
  let t := s.setInput i { l with level := some l.raw, timer := none }
  match l.level with
  | none => inputSettled i l.raw t
  | some f => if f = l.raw then t else inputChanged i l.raw t

/-- The comparison hold-off timer expires: the comparison of each end may be made (R74). -/
def holdOffExpired (s : State) : State :=
  compareEnd .e2 (compareEnd .e1 { s with consist := { s.consist with holdOff := none } })

end Sys2Proof.Machine
end

