-- ==== Sys2Proof/Machine/Orders.lean ====
section
/-! DEFINITION. The order dispatcher (file 05): lookup, arguments, range, side mapping, the actions and the last-outcome
record. -/

namespace Sys2Proof.Machine

/-! ### Lookup (R89) -/

/-- An entry matches an ORDER's code at this node (R89). -/
def entryMatches (code : Byte) (s : State) (e : OrderEntry) : Bool :=
  e.valid && e.code == code && e.classes.getLsbD (s.itemN Item.coachClass) &&
    (e.first == 0 || (s.holdsPosition && e.first.toNat ≤ s.consist.position && s.consist.position ≤ e.last.toNat))

/-- The selected entry, with its index: the first that matches (R89). -/
def State.selected (s : State) (code : Byte) : Option (Nat × OrderEntry) :=
  (s.orders.list.findIdx? (entryMatches code s)).map (fun i => (i, s.orders.getD i blankOrder))

/-! ### Arguments, range and side (R91 to R93) -/

/-- The ORDER's range is well formed (R91). -/
def rangeGood (d : OrderData) : Bool :=
  d.first == 0 || (d.first.toNat ≤ 32 && d.first.toNat ≤ d.last.toNat && d.last.toNat ≤ 32)

/-- The ORDER's arguments are well formed (R91). -/
def argumentsGood (d : OrderData) : Bool := d.side.toNat ≤ 2 && rangeGood d

/-- The node is in the ORDER's range, a malformed range being taken as the whole train (R91, R92). -/
def inRange (d : OrderData) (s : State) : Bool :=
  !rangeGood d || d.first == 0 || !s.holdsPosition ||
    (d.first.toNat ≤ s.consist.position && s.consist.position ≤ d.last.toNat)

/-- A local side is in the set of channels that an ORDER's side names at this node; a side code above 2 is BOTH (R91,
R93). -/
def addressed (side : Byte) (s : State) (c : Side) : Bool :=
  match s.holdsPosition, side.toNat with
  | true, 0 => (c == .a) == (s.consist.leadEnd == some .e1)
  | true, 1 => (c == .a) != (s.consist.leadEnd == some .e1)
  | _, _ => true

/-! ### Outcomes (R90, R99, R100) -/

/-- The last-outcome record replaced whole (R100). -/
def recordOutcome (d : OrderData) (sel : Option (Nat × Action)) (o : OrderOutcome) (a b : SideResult) (s : State) : State :=
  { s with dispatch := { s.dispatch with
    last := ⟨d.code, d.side, d.first, d.last, sel.map (·.1), sel.map (·.2), o, a, b⟩ } }

/-- An outcome with neither side addressed. -/
def recordBare (d : OrderData) (i : Nat) (a : Action) (o : OrderOutcome) (s : State) : State :=
  recordOutcome d (some (i, a)) o .notAddressed .notAddressed s

/-- The channel refused the action. -/
def SideResult.isRefused : SideResult → Bool
  | .refused _ => true
  | .notAddressed | .accepted | .unchanged => false

/-- The outcome drawn from the side results of the channels that were addressed (R100). -/
def doorOutcome (a b : SideResult) : OrderOutcome :=
  let results := [a, b].filter (fun r => r != .notAddressed)
  if results.all (fun r => !r.isRefused) then .done
  else if results.all SideResult.isRefused then .refused
  else .partly

/-! ### Actions (R94 to R99) -/

/-- A door action handed to the channels of a set, all in one event (R94 to R96). -/
def handDoors (d : OrderData) (i : Nat) (a : Action) (act : Side → State → SideResult × State) (set : Side → Bool)
    (s : State) : State :=
  let (ra, s) := if set .a then act .a s else (.notAddressed, s)
  let (rb, s) := if set .b then act .b s else (.notAddressed, s)
  recordOutcome d (some (i, a)) (doorOutcome ra rb) ra rb s

/-- A selected RELEASE (R91, R92, R94). -/
def orderRelease (d : OrderData) (i : Nat) (s : State) : State :=
  if argumentsGood d = false then recordBare d i .release .badArgument s
  else if inRange d s then handDoors d i .release releaseChannel (addressed d.side s) s
  else recordBare d i .release .outOfRange s

/-- A selected CLOSE (R91, R92, R95). -/
def orderClose (d : OrderData) (i : Nat) (s : State) : State :=
  if inRange d s then handDoors d i .close closeChannel (addressed d.side s) s
  else recordBare d i .close .outOfRange s

/-- A selected DOOR_RESET (R91, R92, R96). -/
def orderDoorReset (d : OrderData) (i : Nat) (s : State) : State :=
  if inRange d s then handDoors d i .doorReset doorResetChannel (fun _ => true) s
  else recordBare d i .doorReset .outOfRange s

/-- A selected CHIME (R97). -/
def orderChime (d : OrderData) (i : Nat) (param : Byte) (s : State) : State :=
  recordBare d i .chime .done (chime param s)

/-- A selected HEAT_CAP (R98). -/
def orderHeatCap (d : OrderData) (i : Nat) (param : Byte) (s : State) : State :=
  recordBare d i .heatCap .done { s with heat := { s.heat with cCmd := min param.toNat 4 } }

/-- An unmatched ORDER (R90). -/
def orderUnmatched (d : OrderData) (s : State) : State :=
  let s := recordOutcome d none .unmatched .notAddressed .notAddressed s
  { s with dispatch := { s.dispatch with unmatched := satInc s.dispatch.unmatched } }

/-- An ORDER at the dispatcher, handled whole (R87). -/
def takeOrder (d : OrderData) (s : State) : State :=
  match s.selected d.code with
  | none => orderUnmatched d s
  | some (i, e) =>
    match e.action with
    | .ignore => recordBare d i .ignore .ignored s
    | .release => orderRelease d i s
    | .close => orderClose d i s
    | .doorReset => orderDoorReset d i s
    | .chime => orderChime d i e.param s
    | .heatCap => orderHeatCap d i e.param s

end Sys2Proof.Machine
end

