-- ==== Sys2Proof/Machine/Items.lean ====
section
/-! DEFINITION. Reading and writing items (file 11, Items; R141, R177, R182, R183): the value of every item 0..88, and a
WRITE ITEMS as a whole. -/

namespace Sys2Proof.Machine

/-! ### Codes of the status items (R182: the place in the list of values) -/

def doorStateCode : DoorState → Nat
  | .locked => 0
  | .released => 1
  | .warning => 2
  | .closing => 3
  | .recycle => 4
  | .fault => 5
  | .isolated => 6

def faultCauseCode : FaultCause → Nat
  | .none => 0
  | .settling => 1
  | .closeTimeout => 2
  | .leafOpened => 3
  | .isolateRemoved => 4
  | .settledOpen => 5

def comparisonCode : Comparison → Nat
  | .notMade => 0
  | .agree => 1
  | .segmentFault => 2
  | .senseMismatch => 3

def monitorCode : Monitor → Nat
  | .settling => 0
  | .normal => 1
  | .shed => 2

def resetCauseCode : ResetCause → Nat
  | .supply => 0
  | .lineHold => 1
  | .requested => 2

def storeStateCode : StoreState → Nat
  | .valid => 0
  | .storing => 1
  | .invalid => 2

def outcomeCode : OrderOutcome → Nat
  | .none => 0
  | .unmatched => 1
  | .ignored => 2
  | .outOfRange => 3
  | .badArgument => 4
  | .done => 5
  | .partly => 6
  | .refused => 7

/-- Item 70's codes. -/
def sideResultCode : SideResult → Nat
  | .notAddressed => 0
  | .accepted => 1
  | .unchanged => 2
  | .refused .notStandstill => 3
  | .refused .noConsist => 4
  | .refused .isolated => 5
  | .refused .inFault => 6

/-- Item 56's orientation. -/
def orientationCode : Option End → Nat
  | some .e1 => 0
  | some .e2 => 1
  | none => 255

/-- The condition events in the order of item 84. -/
def conditionEvents : List Event := [.doorFaultA, .doorFaultB, .supplyShed, .segmentFault, .senseMismatch, .conflict]

/-! ### The status items (items 51..88) -/

/-- Items 51..62: identity, resets, consist and lead, comparison and presence, line errors of the ends. -/
def statusItem51 (s : State) : Nat → Word
  | 51 => s.identity.extractLsb' 0 16
  | 52 => s.identity.extractLsb' 16 16
  | 53 => wordItem (resetCauseCode s.mgmt.cause)
  | 54 => wordItem (storeStateCode s.mgmt.store)
  | 55 => pairItem (consistStateCode s.consist.state) s.consist.position
  | 56 => pairItem (orientationCode s.consist.leadEnd) s.consist.length
  | 57 => s.consist.check
  | 58 => pairItem (bit s.lead.role) (leadStateCode s.lead.state)
  | 59 => pairItem (reasonCode s.lead.reason) s.survey.misses
  | 60 => pairItem (comparisonCode s.consist.comp1) (comparisonCode s.consist.comp2)
  | 61 => pairItem (bit (s.alive .e1)) (bit (s.alive .e2))
  | 62 => pairItem s.pu1.lineErrors s.pu2.lineErrors
  | _ => 0

/-- Items 63..73: the counts, the last order, the channels. -/
def statusItem63 (s : State) : Nat → Word
  | 63 => pairItem s.puC.lineErrors s.directionErrors
  | 64 => pairItem s.pu1.overflows s.pu2.overflows
  | 65 => pairItem s.puC.overflows s.cabRefusals
  | 66 => pairItem s.dispatch.unmatched (outcomeCode s.dispatch.last.outcome)
  | 67 => pairItem s.dispatch.last.code.toNat s.dispatch.last.side.toNat
  | 68 => pairItem s.dispatch.last.first.toNat s.dispatch.last.last.toNat
  | 69 => pairItem (s.dispatch.last.entry.getD 255)
      (match s.dispatch.last.action with
       | some a => (actionCode a).toNat
       | none => 255)
  | 70 => pairItem (sideResultCode s.dispatch.last.sideA) (sideResultCode s.dispatch.last.sideB)
  | 71 => pairItem (doorStateCode s.doors.a.state) (doorStateCode s.doors.b.state)
  | 72 => pairItem s.doors.a.retries s.doors.b.retries
  | 73 => pairItem (faultCauseCode s.doors.a.cause) (faultCauseCode s.doors.b.cause)
  | _ => 0

/-- Items 74..88: heating, local lines, events, conflict identity. -/
def statusItem74 (s : State) : Nat → Word
  | 74 => wordItem s.heat.vAvg
  | 75 => pairItem (monitorCode s.heat.monitor) s.enabledStages
  | 76 => pairItem s.heat.target s.heat.level
  | 77 => pairItem s.teff s.heat.cCmd
  | 78 => pairItem s.capTh s.capDoor
  | 79 => pairItem s.capSup s.heat.grant
  | 80 => match s.heat.cycleRec with
    | some c => wordItem c.toNat
    | none => 256
  | 81 => wordItem (bitsOf (allInputs.map (fun i => s.active i)))
  | 82 => wordItem (bitsOf (allInputs.map (fun i => s.settled i)))
  | 83 => wordItem (bitsOf (allOutputs.map (fun o => s.output o)))
  | 84 => wordItem (bitsOf (conditionEvents.map (fun ev => s.condition ev)))
  | 85 => s.events.setWidth 16
  | 86 => (s.events >>> 16).setWidth 16
  | 87 => s.lead.conflictId.extractLsb' 0 16
  | 88 => s.lead.conflictId.extractLsb' 16 16
  | _ => 0

/-- The value of item `n`, 0..88, as READ ITEMS gives it (R182). -/
def State.itemValue (s : State) (n : Nat) : Word :=
  if n ≤ 50 then s.item n
  else if n ≤ 62 then statusItem51 s n
  else if n ≤ 73 then statusItem63 s n
  else statusItem74 s n

/-- The values of `count` items from `start` on. -/
def State.itemValues (s : State) (start count : Nat) : List Word :=
  (List.range count).map (fun i => s.itemValue (start + i))

/-! ### WRITE ITEMS (R183) -/

/-- A value written to an item as it is stored, or none where it names no code (R183, tests 4 and clamping). -/
def writeValue (n : Nat) (v : Word) : Option Word :=
  match itemKind n with
  | .range lo hi => some (if v.toNat < lo then wordItem lo else if v.toNat > hi then wordItem hi else v)
  | .code hi => if v.toNat ≤ hi then some v else none
  | .bits mask => some (v &&& mask)
  | .slot => if v.toNat ≤ 88 ∨ v.toNat = 255 then some v else none

/-- The values of a request as they would be stored from item `n` on; none where any names no code. -/
def writeValues (n : Nat) : List Word → Option (List Word)
  | [] => some []
  | v :: vs =>
    match writeValue n v, writeValues (n + 1) vs with
    | some w, some ws => some (w :: ws)
    | _, _ => none

/-- The range of items `start` .. `start + count − 1` includes item `n`. -/
def coversItem (start count n : Nat) : Bool := start ≤ n && n < start + count

/-- The shed and restore test of R141 on the items as they would stand: asked only of a write of either. -/
def thresholdsGood (start count : Nat) (items : Tab Word 51) : Bool :=
  !(coversItem start count Item.shedV || coversItem start count Item.restoreV) ||
    (items.getD Item.shedV 0).toNat < (items.getD Item.restoreV 0).toNat

/-- The condition events whose enable stands in the written value of item 33 or 34. -/
def noticeWritten (start count : Nat) (s : State) (ev : Event) : Bool :=
  if eventBit ev < 16 then coversItem start count Item.noticeLow && (s.item Item.noticeLow).getLsbD (eventBit ev)
  else coversItem start count Item.noticeHigh && (s.item Item.noticeHigh).getLsbD (eventBit ev - 16)

/-- A write of the notice enables raises each condition event that it sets on and whose condition is true (R177). -/
def raiseNoticed (start count : Nat) (s : State) : State :=
  conditionEvents.foldl (fun t ev => raiseIf (noticeWritten start count s ev && s.condition ev) ev t) s

/-- The leaf-count effects of a write (R109), `old` being the state before it. -/
def writeLeafCount (start count : Nat) (old : State) (c : Side) (s : State) : State :=
  if coversItem start count (Item.leafCount c) then leafCountWritten c (old.leafCount c) s else s

/-- The values stored and given their effects in one event (R183). Timers take a new time at their next start, and the
warm cap and every other cap is worked out afresh at the end of the event. -/
def storeItems (start : Nat) (values : List Word) (s : State) : State :=
  let n := values.length
  let t := { s with items := s.items.setFrom start values }
  raiseNoticed start n (writeLeafCount start n s .b (writeLeafCount start n s .a t))

end Sys2Proof.Machine
end

