-- ==== Sys2Proof/Machine/Reset.lean ====
section
/-! DEFINITION. Resets (R189): what the start of a reset does, and what runs from its end. -/

namespace Sys2Proof.Machine

/-- What a reset loads: the store image where its check holds and no store was in progress, and with it whether the store
is VALID (R189, step 1). -/
def Responder.loaded (m : Responder) : Option Image := if m.store = .storing then none else m.image

/-- The start of a reset: every block as its table gives it, the configuration reloaded, outputs off and every timer
stopped (R189). The identity, the levels at the pins, the clock and the waiting commands are not the reset's. -/
def resetBegin (cause : ResetCause) (s : State) : State :=
  let kept := s.mgmt.loaded
  let im := kept.getD factoryImage
  let t : State :=
    { pending := s.pending, now := s.now, identity := s.identity, supplyLow := decide (cause = .supply)
      pu1 := PortUnit.reset, pu2 := PortUnit.reset, puC := PortUnit.reset
      end1 := ⟨none, none⟩, end2 := ⟨none, none⟩, cab := ⟨none, .disarmed, none⟩
      directionErrors := 0, cabRefusals := 0
      consist := Consist.reset, lead := Lead.reset, survey := SurveyUnit.reset, seq := Sequencer.reset im.items
      orders := im.orders, dispatch := Dispatcher.reset, doors := Doors.reset im.items
      heat := Heat.reset im.stages
      inputs := s.inputs.map (fun l => ⟨l.raw, none, none⟩)
      events := 0
      items := im.items
      mgmt := ⟨.ready, none, if kept.isSome then .valid else .invalid, none, kept, none, cause⟩
      scratch := Scratch.rest }
  raiseIf kept.isNone .storeInvalid (raise .reset t)

/-- The stability timer of every input, started (R173). -/
def startStability (s : State) : Tab InputLine 15 :=
  ⟨allInputs.map (fun i => { s.input i with timer := s.start (s.itemN (Item.filter i)) }), by simp [allInputs]⟩

/-- The end of a reset: what counts its time from there starts (R12, R74, R140, R148, R152, R173, R189). -/
def resetEnd (s : State) : State :=
  { s with
    supplyLow := false
    end1 := { s.end1 with idleTimer := s.start idleInterval }
    end2 := { s.end2 with idleTimer := s.start idleInterval }
    consist := { s.consist with holdOff := s.start (s.itemN Item.silence) }
    heat := { s.heat with
      sample := s.start samplePeriod
      minOff := Tab.fill 4 (s.startOrExpired (s.itemN Item.minOff))
      holdover := s.start (1000 * s.itemN Item.holdover) }
    inputs := startStability s }

/-- A LINE_HOLD or REQUESTED reset, which begins and ends in one event (R10, R187, R189). -/
def resetNode (cause : ResetCause) (s : State) : State := resetEnd (resetBegin cause s)

end Sys2Proof.Machine
end

