-- ==== Sys2Proof/Machine/Management.lean ====
section
/-! DEFINITION. The management responder and the configuration store (file 11): the tests common to every request, each
request's own tests and effect, the REPLY, and the store timer. -/

namespace Sys2Proof.Machine

/-! ### The REPLY (R21, R181) -/

/-- The statuses of a REPLY (R21). -/
inductive Status where
  | done | badItem | readOnly | badEntry | busy | notLead | cabInactive
deriving DecidableEq, Repr

def statusCode : Status → Byte
  | .done => 0
  | .badItem => 1
  | .readOnly => 2
  | .badEntry => 3
  | .busy => 4
  | .notLead => 5
  | .cabInactive => 6

/-- Where a request came from: along the line, or from the cab port (R181). -/
inductive Source where
  | line | cab
deriving DecidableEq, Repr

/-- The REPLY frame: LEADWARD, hop 0, destination 1, and the position given as source (R181). -/
def replyFrame (source : Nat) (code : Byte) (st : Status) (data : List Byte) : Frame :=
  mkFrame .reply true false 0 1 (byteOf source) ([code, statusCode st] ++ data)

/-- The port a request's REPLY goes to: the cab port, or the leadward end (R181). -/
def State.replyPort (s : State) : Source → Option Port
  | .cab => some .cab
  | .line => s.consist.leadEnd.map .line

/-- A REPLY offered on the path its request arrived by, at the default rate (R4, R181). -/
def reply (src : Source) (code : Byte) (st : Status) (data : List Byte) (s : State) : State :=
  match s.replyPort src with
  | some p => offer p (replyFrame s.consist.position code st data) defaultRate s
  | none => s

/-- A refusal: it changes nothing, and its REPLY carries the code and the status only (R181). -/
def refuse (src : Source) (code : Byte) (st : Status) (s : State) : State := reply src code st [] s

/-! ### Argument lengths (R21, R181 test 3) -/

/-- The payload length of a WRITE TABLE (log 21 for a table other than 0 and 1). -/
def tableWriteLength (payload : List Byte) : Bool :=
  let count := (byteAt payload 3).toNat
  match (byteAt payload 1).toNat with
  | 0 => payload.length == 4 + 8 * count
  | 1 => payload.length == 4 + 2 * count
  | 2 => payload.length == 4 + 10 * count
  | _ => 4 ≤ payload.length

/-- The payload length is the one the code and its count need. -/
def requestLength (payload : List Byte) : Bool :=
  match (byteAt payload 0).toNat with
  | 1 => payload.length == 3
  | 2 => payload.length == 3 + 2 * (byteAt payload 2).toNat
  | 3 => payload.length == 4
  | 4 => tableWriteLength payload
  | 5 => payload.length == 3
  | 11 => payload.length == 6
  | _ => payload.length == 1

/-! ### Items and the report map (R182, R183, R185) -/

/-- The item range of READ ITEMS and WRITE ITEMS: a count of 1..16, and a start plus count of at most 89. -/
def itemRange (start count : Nat) : Bool := 1 ≤ count && count ≤ 16 && start + count ≤ 89

/-- READ ITEMS (R182). -/
def answerReadItems (src : Source) (start count : Byte) (s : State) : State :=
  if itemRange start.toNat count.toNat then
    reply src 1 .done ([start, count] ++ bytesOf (s.itemValues start.toNat count.toNat)) s
  else refuse src 1 .badItem s

/-- WRITE ITEMS (R183): the tests in their order, then the values stored and answered as stored. -/
def answerWriteItems (src : Source) (start count : Byte) (values : List Word) (s : State) : State :=
  if s.mgmt.store = .storing then refuse src 2 .busy s
  else if itemRange start.toNat count.toNat = false then refuse src 2 .badItem s
  else if start.toNat + count.toNat > 51 then refuse src 2 .readOnly s
  else match writeValues start.toNat values with
    | none => refuse src 2 .badEntry s
    | some ws =>
      if thresholdsGood start.toNat count.toNat (s.items.setFrom start.toNat ws) then
        reply src 2 .done ([start, count] ++ bytesOf ws) (storeItems start.toNat ws s)
      else refuse src 2 .badEntry s

/-- The value of a report map slot (R185): the item it names, or 0. -/
def State.slotValue (s : State) (slot : Nat) : Word :=
  let n := (s.itemN (Item.mapSlot + slot % 16))
  if n = 255 then 0 else s.itemValue n

/-- READ MAP (R185). -/
def answerReadMap (src : Source) (start count : Byte) (s : State) : State :=
  if start.toNat ≤ 15 ∧ 1 ≤ count.toNat ∧ count.toNat ≤ 16 then
    reply src 5 .done ([start, count] ++
      bytesOf ((List.range count.toNat).map (fun i => s.slotValue (start.toNat + i)))) s
  else refuse src 5 .badEntry s

/-! ### Tables (R101, R102, R139, R184) -/

/-- A table's limits: the most entries in a request, and its size. -/
def tableLimits : Nat → Nat × Nat
  | 0 => (5, 24)
  | 1 => (4, 4)
  | 2 => (4, 32)
  | _ => (0, 0)

/-- The start and count keep the table's limits. -/
def tableRange (table start count : Nat) : Bool :=
  1 ≤ count && count ≤ (tableLimits table).1 && start + count ≤ (tableLimits table).2

/-- The bytes of one entry of a table. -/
def State.entryBytes (s : State) (table i : Nat) : List Byte :=
  match table with
  | 0 => (s.orders.getD i blankOrder).bytes
  | 1 => (s.heat.stages.getD i blankStage).bytes
  | _ => placeBytes (s.consist.table.getD i none)

/-- READ TABLE (R184). -/
def answerReadTable (src : Source) (table start count : Byte) (s : State) : State :=
  if tableRange table.toNat start.toNat count.toNat then
    reply src 3 .done ([table, start, count] ++
      (List.range count.toNat).flatMap (fun i => s.entryBytes table.toNat (start.toNat + i))) s
  else refuse src 3 .badEntry s

/-- The enabled stages form a prefix of the table (R138). -/
def stagesGood (t : Tab StageEntry 4) : Bool := (t.list.dropWhile (·.enabled)).all (fun e => !e.enabled)

/-- WRITE TABLE for table 0 (R101). -/
def writeOrders (src : Source) (start count : Byte) (entries : List Byte) (s : State) : State :=
  match OrderEntry.listOf count.toNat entries with
  | some es => reply src 4 .done [0, start, count] { s with orders := s.orders.setFrom start.toNat es }
  | none => refuse src 4 .badEntry s

/-- WRITE TABLE for table 1 (R139). -/
def writeStages (src : Source) (start count : Byte) (entries : List Byte) (s : State) : State :=
  let t := s.heat.stages.setFrom start.toNat (StageEntry.listOf count.toNat entries)
  if stagesGood t then reply src 4 .done [1, start, count] { s with heat := { s.heat with stages := t } }
  else refuse src 4 .badEntry s

/-- WRITE TABLE (R184): the tests in their order. -/
def answerWriteTable (src : Source) (table start count : Byte) (entries : List Byte) (s : State) : State :=
  if s.mgmt.store = .storing then refuse src 4 .busy s
  else if table = 2 then refuse src 4 .readOnly s
  else if tableRange table.toNat start.toNat count.toNat = false then refuse src 4 .badEntry s
  else if table = 0 then writeOrders src start count entries s
  else writeStages src start count entries s

/-! ### READ EVENTS (R178) -/

/-- The 3 bytes of events present (R21). -/
def eventBytes (e : BitVec 20) : List Byte :=
  [e.extractLsb' 0 8, e.extractLsb' 8 8, (e.extractLsb' 16 4).setWidth 8]

/-- READ EVENTS (R178): the events present are answered and removed, before the REPLY is offered. -/
def answerReadEvents (src : Source) (s : State) : State :=
  reply src 6 .done (eventBytes s.events) { s with events := 0 }

/-! ### STORE and NODE RESET (R187, R188) -/

/-- The configuration as it stands (R188). -/
def State.working (s : State) : Image := ⟨s.items, s.orders, s.heat.stages⟩

/-- STORE (R188). -/
def answerStore (src : Source) (s : State) : State :=
  if s.mgmt.store = .storing then refuse src 7 .busy s
  else { s with mgmt := { s.mgmt with
    state := .storePending
    owed := (s.replyPort src).map (fun p => ⟨p, s.consist.position⟩)
    store := .storing
    storeTimer := s.start storeTime
    storing := some s.working } }

/-- The REPLY owed to a STORE, offered to the port and with the source kept (R188). -/
def payOwed (s : State) : State :=
  match s.mgmt.owed with
  | some o => offer o.port (replyFrame o.source 7 .done []) defaultRate
      { s with mgmt := { s.mgmt with owed := none } }
  | none => s

/-- The store timer expires (R188). -/
def storeDone (s : State) : State :=
  payOwed (raise .storeDone { s with mgmt := { s.mgmt with
    state := if s.mgmt.state = .resetPending then .resetPending else .ready
    store := .valid, storeTimer := none, image := s.mgmt.storing, storing := none } })

/-- NODE RESET (R187): answered DONE, and pending until that REPLY has left its queue; at once where the REPLY is
discarded at a full queue. -/
def answerNodeReset (src : Source) (s : State) : State :=
  match s.replyPort src with
  | some p =>
    if s.hasSlot p then
      offerQueued p ⟨replyFrame s.consist.position 8 .done [], defaultRate, true⟩
        { s with mgmt := { s.mgmt with state := .resetPending } }
    else resetNode .requested s
  | none => s

/-- The REQUESTED reset takes effect, where one is pending (R187). Given as REQUESTED_RESET while the REPLY to the NODE RESET
still waits in its queue, it resets at once: R187 describes no such happening, and the model takes the command as the
REPLY's leaving, which empties the queues with everything else (DESIGN CHOICE, log 38). -/
def pendingReset (s : State) : State := if s.mgmt.state = .resetPending then resetNode .requested s else s

/-! ### Lead-control requests (R156, R186) -/

/-- START ROLL CALL (R186): the REPLY is offered first (log 20). -/
def answerStartRollCall (src : Source) (s : State) : State :=
  if src = .line then refuse src 9 .notLead s
  else if s.active .key = false then refuse src 9 .cabInactive s
  else leadRollCall (reply src 9 .done [] s)

/-- STOP (R58, R186). -/
def answerStop (src : Source) (s : State) : State :=
  if src = .line then refuse src 10 .notLead s
  else if s.active .key = false then refuse src 10 .cabInactive s
  else if s.lead.role = false then refuse src 10 .notLead s
  else stopLead (reply src 10 .done [] s)

/-- The working setup taken from a HEAT SETUP, clamped (R156). -/
def takeSetup (budget : Word) (demand : Byte) (period : Word) (s : State) : State :=
  { s with seq := { s.seq with
    budget := min 4000 budget.toNat, demand := min 4 demand.toNat, period := max 5 (min 300 period.toNat) } }

/-- HEAT SETUP (R156, R186). -/
def answerHeatSetup (src : Source) (budget : Word) (demand : Byte) (period : Word) (s : State) : State :=
  if src = .line then refuse src 11 .notLead s
  else if s.active .key = false then refuse src 11 .cabInactive s
  else if s.lead.role = false then refuse src 11 .notLead s
  else takeSetup budget demand period (reply src 11 .done [] s)

/-! ### The responder (R181) -/

/-- A request that has passed the common tests, executed by its code. -/
def execute (src : Source) (l : List Byte) (s : State) : State :=
  match (byteAt l 0).toNat with
  | 1 => answerReadItems src (byteAt l 1) (byteAt l 2) s
  | 2 => answerWriteItems src (byteAt l 1) (byteAt l 2) (wordsOf (l.drop 3)) s
  | 3 => answerReadTable src (byteAt l 1) (byteAt l 2) (byteAt l 3) s
  | 4 => answerWriteTable src (byteAt l 1) (byteAt l 2) (byteAt l 3) (l.drop 4) s
  | 5 => answerReadMap src (byteAt l 1) (byteAt l 2) s
  | 6 => answerReadEvents src s
  | 7 => answerStore src s
  | 8 => answerNodeReset src s
  | 9 => answerStartRollCall src s
  | 10 => answerStop src s
  | _ => answerHeatSetup src (wordAt l 1) (byteAt l 3) (wordAt l 4) s

/-- The request code is one of the eleven. -/
def knownCode (code : Byte) : Bool := 1 ≤ code.toNat && code.toNat ≤ 11

/-- A REQUEST at the management responder: the tests of R181 in their order, then the request itself. -/
def respond (src : Source) (payload : List Byte) (s : State) : State :=
  let code := byteAt payload 0
  if knownCode code = false then refuse src code .badEntry s
  else if s.mgmt.state = .resetPending then refuse src code .busy s
  else if requestLength payload = false then refuse src code .badEntry s
  else execute src payload s

end Sys2Proof.Machine
end

