-- ==== Sys2Proof/Machine/Relay.lean ====
section
/-! DEFINITION. The relay engine (file 02): what becomes of each checked frame, by its arrival port, kind, flags and
destination and by the node's position and role. -/

namespace Sys2Proof.Machine

/-! ### Counts and rewrites (R28, R31, R35, R37, R38, R42) -/

/-- A frame dropped as a direction error (R24, R26, R29, R42). -/
def directionError (s : State) : State := { s with directionErrors := satInc s.directionErrors }

/-- A cab-port frame dropped (R38 to R40, R42). -/
def cabRefusal (s : State) : State := { s with cabRefusals := satInc s.cabRefusals }

/-- The frame turned round at the end node at position `p` (R31). -/
def Frame.turned (f : Frame) (p : Nat) : Frame := Frame.recheck { f with flags := flagsByte true true p }

/-- A cab frame as the lead sends it on, to a destination (R37, R38). -/
def Frame.fromCab (f : Frame) (dest : Byte) : Frame :=
  Frame.recheck { f with flags := flagsByte false false 1, dest := dest, src := 1 }

/-! ### Without a position (R25) -/

/-- A frame passed out of the other end unchanged (R25). -/
def passOn (e : End) (f : Frame) (rate : LineRate) (s : State) : State := offer (.line e.other) f rate s

/-- An end-port frame at a node without a position (R25). -/
def relayUnplaced (e : End) (f : Frame) (rate : LineRate) (s : State) : State :=
  match f.kind with
  | .call => if acceptedOnEnd f then takeCall e f rate s else passOn e f rate s
  | .heatSet =>
    passOn e f rate (if acceptedOnEnd f then takeHeatSet (HeatSetData.ofPayload f.payload) s else s)
  | .idle | .answer | .tail | .roster | .confirm | .survey | .order | .heatPass | .request | .reply | .leadStatus =>
    passOn e f rate s

/-! ### Outward frames (R27 to R32) -/

/-- A frame that is not a sweep kind goes on at hop p, or is consumed at the end node (R28, R32). -/
def forwardOutward (f : Frame) (rate : LineRate) (s : State) : State :=
  if s.endNode then s else offerEnd s.outwardEnd (f.withHop s.consist.position) rate s

/-- A sweep kind goes on at hop p, or is reflected at the end node (R28, R31). -/
def forwardSweep (f : Frame) (rate : LineRate) (s : State) : State :=
  if s.endNode then offerEnd s.consist.leadEnd (f.turned s.consist.position) rate s
  else offerEnd s.outwardEnd (f.withHop s.consist.position) rate s

/-- A CONFIRM at a node with a position: the consist unit's writes (R27, R64). -/
def actConfirm (f : Frame) (s : State) : Frame × State :=
  let (d, s) := takeConfirm (ConfirmData.ofPayload f.payload) s
  ({ f with payload := d.payload }, s)

/-- A SURVEY: written by a node in PLACED or STALE (R27, R80, R81). -/
def actSurvey (f : Frame) (s : State) : Frame × State :=
  if s.placedOrStale then
    let (d, s) := takeSurvey f.hop (SurveyData.ofPayload f.payload) s
    ({ f with payload := d.payload }, s)
  else (f, s)

/-- A HEAT PASS: computed by a node in PLACED or STALE (R27, R163 to R168). -/
def actHeatPass (f : Frame) (s : State) : Frame × State :=
  if s.placedOrStale then
    let (d, s) := computePass (PassData.ofPayload f.payload) s
    ({ f with payload := d.payload }, s)
  else (f, s)

/-- A sweep acted on by `act` and sent on. -/
def sweep (act : Frame → State → Frame × State) (f : Frame) (rate : LineRate) (s : State) : State :=
  let (g, t) := act f s
  forwardSweep g rate t

/-- An outward REQUEST, routed by its destination (R29). -/
def routeRequest (f : Frame) (rate : LineRate) (s : State) : State :=
  if f.dest.toNat = s.consist.position then respond .line f.payload s
  else if f.dest.toNat < s.consist.position ∨ s.endNode then directionError s
  else offerEnd s.outwardEnd (f.withHop s.consist.position) rate s

/-- An outward frame on the leadward end, other than a CALL (R27). Its source is handed on before any unit acts, so a WRITE
ITEMS from position 1 that writes the lead-loss time restarts that timer with the old value: R27, R77 and R183 do not order
the two (DESIGN CHOICE, log 40). -/
def takeOutward (f : Frame) (rate : LineRate) (s : State) : State :=
  let s := handSource f.src s
  match f.kind with
  | .roster => forwardOutward f rate (takeRoster f.payload s)
  | .order => forwardOutward f rate (takeOrder (OrderData.ofPayload f.payload) s)
  | .heatSet => forwardOutward f rate (takeHeatSet (HeatSetData.ofPayload f.payload) s)
  | .confirm => sweep actConfirm f rate s
  | .survey => sweep actSurvey f rate s
  | .heatPass => sweep actHeatPass f rate s
  | .request => routeRequest f rate s
  | .idle | .call | .answer | .tail | .reply | .leadStatus => s

/-! ### Leadward frames (R33, R34) -/

/-- A leadward frame at a lead at position 1 (R34). -/
def consumeLeadward (f : Frame) (rate : LineRate) (s : State) : State :=
  match f.kind with
  | .answer => takeAnswer f.payload s
  | .tail => takeTail (TailData.ofPayload f.payload) s
  | .confirm => takeReflectedConfirm f.hop (ConfirmData.ofPayload f.payload) s
  | .survey => takeReflectedSurvey (SurveyData.ofPayload f.payload) s
  | .heatPass => takeReflectedPass (PassData.ofPayload f.payload) s
  | .reply => offer .cab f rate s
  | .idle | .call | .roster | .order | .heatSet | .request | .leadStatus => s

/-- A leadward frame on the outward end (R33, R34). -/
def takeLeadward (f : Frame) (rate : LineRate) (s : State) : State :=
  if 1 < s.consist.position then offerEnd s.consist.leadEnd f rate s
  else if s.lead.role then consumeLeadward f rate s
  else s

/-! ### The three ports (R22) -/

/-- An end-port frame at a node with a position (R24, R26, R27, R33). A CALL goes to roll call alone: one that roll call
disregards, with hop 0 (R61), does not restart the lead-loss timer, since R77's list of the kinds that count has no CALL,
though R27 passes on the source of every outward frame (DEDUCED, log 39). -/
def relayPlaced (e : End) (f : Frame) (rate : LineRate) (s : State) : State :=
  if acceptedOnEnd f = false then directionError s
  else if f.kind = .call then takeCall e f rate s
  else if f.leadward then
    if s.consist.leadEnd = some e then directionError s else takeLeadward f rate s
  else if s.consist.leadEnd = some e ∧ s.lead.role = false then takeOutward f rate s
  else directionError s

/-- A frame of the cab port of a lead (R37 to R39). -/
def relayCabLead (f : Frame) (rate : LineRate) (s : State) : State :=
  let sendOn := s.holdsPosition && !s.endNode
  let d := f.dest.toNat
  match f.kind with
  | .order =>
    let t := takeOrder (OrderData.ofPayload f.payload) s
    if sendOn then offerEnd t.outwardEnd (f.fromCab destAll) rate t else t
  | .request =>
    if d = 0 ∨ (d = 1 ∧ s.consist.position = 1) then respond .cab f.payload s
    else if 2 ≤ d ∧ d ≤ 32 ∧ sendOn then offerEnd s.outwardEnd (f.fromCab f.dest) rate s
    else cabRefusal s
  | .idle | .call | .answer | .tail | .roster | .confirm | .survey | .heatPass | .heatSet | .reply | .leadStatus =>
    cabRefusal s

/-- A frame of the cab port of a node without the lead role (R40). -/
def relayCabOther (f : Frame) (s : State) : State :=
  if f.kind = .request ∧ f.dest = 0 then respond .cab f.payload s else cabRefusal s

/-- The relay engine takes a frame (R22). -/
def relay (p : Port) (f : Frame) (rate : LineRate) (s : State) : State :=
  match p with
  | .line e => if s.holdsPosition then relayPlaced e f rate s else relayUnplaced e f rate s
  | .cab => if s.lead.role then relayCabLead f rate s else relayCabOther f s

end Sys2Proof.Machine
end

