-- ==== Sys2Proof/Machine/Line.lean ====
section
/-! DEFINITION. The port units (file 01): sync and rate lock, the errors, breaks and the line-hold watch, liveness, sending,
and a completed frame up to its hand-over to the relay engine. -/

namespace Sys2Proof.Machine

/-! ### Line times, in bit times (R5, R9, R15, R16; log 10) -/

/-- The line has been at mark for more than 4 character times (R5, R9). -/
def overGap (markBits : Nat) : Bool := markBits > 4 * charBits

/-- The line has been at space for a break: at least 2 character times (R9). -/
def isBreak (spaceBits : Nat) : Bool := 2 * charBits ≤ spaceBits

/-- The character times of quiet line that R15 and, after a collision, R16 ask for: R16's wait is that of a frame's second
or third attempt, with the attempt after its increment (log 17). After a collision that leaves no frame to retry, an IDLE's
or a third one, R15 does not say which of the two is meant; the model asks 1 character time (log 33). -/
def quietTime (attempt : Nat) (identity : Identity) : Nat :=
  if attempt = 1 then 1 else 5 + (identity.toNat + attempt) % 8

/-! ### Lock and sync (R2, R3) -/

/-- The cab port's lock timer starts or restarts (R3); an end port has none. -/
def restartLock (p : Port) (s : State) : State :=
  match p with
  | .cab => { s with cab := { s.cab with lockTimer := s.start (s.itemN Item.silence) } }
  | .line _ => s

/-- The cab port's lock timer stops as its lock is lost (R3). -/
def stopLock (p : Port) (s : State) : State :=
  match p with
  | .cab => { s with cab := { s.cab with lockTimer := none } }
  | .line _ => s

/-- The port loses its rate lock, and goes to `next` with any frame in assembly dropped and counted (R3, R9). -/
def loseLock (p : Port) (next : RxState) (s : State) : State :=
  let s := stopLock p (s.setPort p { s.port p with lock := none })
  if (s.port p).rx = .assembling then dropFrame p next s else s

/-- The port may take a sync character: in HUNT and not sending (R2; log 12). -/
def PortUnit.listening (u : PortUnit) : Bool := u.rx == .hunt && u.sending == none

/-- A sync character that passes its test: the port locks and assembles (R2). -/
def takeSync (p : Port) (r : LineRate) (s : State) : State :=
  let u := s.port p
  let t := s.setPort p { u with lock := some r, rx := .assembling, buffer := [syncByte] }
  if u.lock = none then restartLock p t else t

/-- A sync character at a port (R2): taken, or a SYNC_ERROR. -/
def hearSync (p : Port) (bitTime : Nat) (c : Character) (s : State) : State :=
  let u := s.port p
  if u.listening then
    match syncRate u.lock bitTime c with
    | some r => takeSync p r s
    | none => dropFrame p .discarding s
  else s

/-- A sync character that fails its test (R2). -/
def syncFails (p : Port) (bitTime : Nat) (c : Character) (s : State) : State :=
  let u := s.port p
  if u.listening ∧ syncRate u.lock bitTime c = none then dropFrame p .discarding s else s

/-! ### Errors in assembly (R1, R5 to R8; log 6) -/

/-- A frame in assembly fails a test: it is dropped and the port goes to `next` (R8). -/
def failFrame (p : Port) (fails : Bool) (next : RxState) (s : State) : State :=
  if (s.port p).rx = .assembling ∧ fails then dropFrame p next s else s

/-- A port in DISCARDING returns to HUNT (R5). -/
def backToHunt (p : Port) (markBits : Nat) (s : State) : State :=
  let u := s.port p
  if u.rx = .discarding ∧ overGap markBits then s.setPort p { u with rx := .hunt } else s

/-! ### Breaks and the line-hold watch (R9, R10) -/

/-- The whole milliseconds of the two character times a break takes to detect, at the locked rate, or at 19 200 bit/s
(R9, R10; log 13). -/
def breakTime : Option LineRate → Nat
  | none => 1
  | some .bps19200 => 1
  | some _ => 0

/-- The watch at a break on the cab port: an ARMED watch enters TIMING, its time counted from the start of the space
(R10). -/
def watchBreak (p : Port) (lock : Option LineRate) (s : State) : State :=
  match p with
  | .cab =>
    if s.cab.watch = .armed then
      { s with cab := { s.cab with watch := .timing, holdTimer := s.start (lineHoldTime - breakTime lock) } }
    else s
  | .line _ => s

/-- A break is detected (R9). A sending port detects none. -/
def takeBreak (p : Port) (spaceBits : Nat) (s : State) : State :=
  let u := s.port p
  if isBreak spaceBits ∧ u.sending = none then
    let s := loseLock p .discarding s
    watchBreak p u.lock (s.setPort p { s.port p with rx := .discarding })
  else s

/-- The cab line is seen at mark: a DISARMED or TIMING watch becomes ARMED (R10). -/
def armWatch (s : State) : State := { s with cab := { s.cab with watch := .armed, holdTimer := none } }

/-- The line-hold time has run with the watch in TIMING (R10). -/
def lineHold (s : State) : State :=
  if s.cab.watch = .timing then onExpiry s.cab.holdTimer (resetNode .lineHold) s else s

/-! ### Liveness (R3, R11, R12) -/

/-- The cab port's lock timer expires (R3). -/
def lockExpired (s : State) : State := loseLock .cab .hunt s

/-- An end port's silence timer expires: it ceases to be alive and loses its lock, and its presence changes (R3, R11,
R72). -/
def silenceExpired (e : End) (s : State) : State :=
  presenceChanged e (loseLock (.line e) .hunt (s.setEnd e { s.endUnit e with silence := none }))

/-- An end port's idle timer expires (R12): with the queue empty an IDLE is due. -/
def idleExpired (e : End) (s : State) : State := s.setEnd e { s.endUnit e with idleTimer := none }

/-! ### Sending (R4, R12, R13, R15, R16) -/

/-- The IDLE frame of an end, built as its transmission starts (R12). -/
def idleFrame (e : End) (s : State) : Frame :=
  mkFrame .idle (s.consist.leadEnd == some e) false 0 0 s.sourceByte []

/-- What a port has to send: the head of its queue, or a due IDLE (R12, R15), with the rate fixed now (R4). -/
def State.toSend (s : State) (p : Port) : Option Sending :=
  let u := s.port p
  match u.queue, p with
  | q :: _, _ => some ⟨u.lock.getD q.rate, none⟩
  | [], .line e =>
    if (s.endUnit e).idleTimer = none then some ⟨u.lock.getD defaultRate, some (idleFrame e s)⟩ else none
  | [], .cab => none

/-- A port starts to send (R15, R16). -/
def startSending (p : Port) (markBits : Nat) (s : State) : State :=
  let u := s.port p
  if u.listening ∧ charBits * quietTime u.attempt s.identity ≤ markBits then s.setPort p { u with sending := s.toSend p }
  else s

/-- The head of the queue leaves its slot, sent or abandoned: the attempt returns to 1, the idle timer restarts, and a
REPLY that a NODE RESET waits for brings the reset (R12, R13, R16, R187). -/
def popHead (p : Port) (s : State) : State :=
  let u := s.port p
  let s := restartIdle p (s.setPort p { u with queue := u.queue.tail, attempt := 1, sending := none })
  match u.queue with
  | q :: _ => if q.resetReply then pendingReset s else s
  | [] => s

/-- A frame's last check character has been sent (R12, R13). -/
def sent (p : Port) (s : State) : State :=
  let u := s.port p
  match u.sending with
  | none => s
  | some ⟨_, none⟩ => popHead p s
  | some ⟨_, some _⟩ => restartIdle p (s.setPort p { u with sending := none })

/-- A line error counted without a frame in assembly (R16). -/
def lineError (p : Port) (s : State) : State :=
  let u := s.port p
  raise .lineError (s.setPort p { u with lineErrors := satInc u.lineErrors })

/-- A collision while sending (R16). -/
def collide (p : Port) (s : State) : State :=
  let u := s.port p
  match u.sending with
  | none => s
  | some ⟨_, some _⟩ => restartIdle p (lineError p (s.setPort p { u with sending := none }))
  | some ⟨_, none⟩ =>
    if u.attempt < 3 then s.setPort p { u with sending := none, attempt := u.attempt + 1 }
    else popHead p (lineError p s)

/-! ### A completed frame (R6, R7) -/

/-- A frame has passed its checks on a port: an end port's silence timer or the cab port's lock timer restarts (R3,
R7). -/
def passedChecks (p : Port) (s : State) : State :=
  match p with
  | .line e => restartSilence e s
  | .cab => if s.puC.lock = none then s else restartLock .cab s

/-- A whole frame at a port in ASSEMBLING (R6, R7): one that fails its length or check test is dropped; an IDLE is
consumed; any other is handed to the relay engine with the rate at which it was received. -/
def receive (p : Port) (f : Frame) (s : State) : State :=
  let u := s.port p
  if u.rx ≠ .assembling then s
  else if lengthGood f.kind f.payload = false then dropFrame p .discarding s
  else if f.checkGood = false then dropFrame p .hunt s
  else
    let s := passedChecks p (s.setPort p { u with rx := .hunt, buffer := [] })
    if f.kind = .idle then s else relay p f (u.lock.getD defaultRate) s

end Sys2Proof.Machine
end

