-- ==== Sys2Proof/Machine/Events.lean ====
section
/-! DEFINITION. An event taken whole (file 00, Events and order): what is settled at its end, and nothing but the supply
while a SUPPLY reset lasts (R189). -/

namespace Sys2Proof.Machine

/-- The outcome of every command: the next state. -/
abbrev Result := Host.Outcome State Fault Refusal

/-- The start of an event: the effective target before it is noted, and no LEAD STATUS is owed. -/
def begin (s : State) : State := { s with scratch := ⟨s.teff, false, none⟩ }

/-- The end of an event: the tone demand (R124), the effective target and the energizer (R146), and the LEAD STATUS owed
(R59) follow from the state it has left. -/
def finish (s : State) : State :=
  { flushStatus (settleHeat (settleTone s)) with scratch := Scratch.rest }

/-- An event outside a SUPPLY reset, with what is settled at its end (log 14). -/
def event (f : State → State) (s : State) : Result := .next (if s.supplyLow then s else finish (f (begin s)))

/-- An event that moves neither doors, heating nor lead machine, and so leaves nothing to settle (log 14). -/
def plainEvent (f : State → State) (s : State) : Result := .next (if s.supplyLow then s else f s)

end Sys2Proof.Machine
end

