-- ==== Sys2Proof/Machine/Clock.lean ====
section
/-! DEFINITION. The node's own 1 ms timebase (file 00, Time): which of the node's own events is due, and the tick that an
empty command queue leaves to it. DESIGN CHOICE: log 5. -/

namespace Sys2Proof.Machine

/-- The command `c` where the timer's time has come. -/
def State.dueAt (s : State) (t : Timer) (c : Instr) : List Instr :=
  match t with
  | some d => if d ≤ s.now then [c] else []
  | none => []

/-- The expiries of the ports that are due. -/
def State.portsDue (s : State) : List Instr :=
  s.dueAt s.cab.holdTimer .lineHoldReset ++ s.dueAt s.cab.lockTimer .lockTimerExpiry ++
  s.dueAt s.end1.silence (.silenceTimerExpiry .e1) ++ s.dueAt s.end2.silence (.silenceTimerExpiry .e2) ++
  s.dueAt s.end1.idleTimer (.idleTimerExpiry .e1) ++ s.dueAt s.end2.idleTimer (.idleTimerExpiry .e2)

/-- The roster send list goes on as the outward queue gives up a frame (R53): the clock sees the slot that this has freed. A
ROSTER that waits behind a full queue as the outward neighbour goes absent needs no slot of its own (R36), and waits for
the queue to give up a frame all the same, R53 naming no other moment (log 16). -/
def State.listDue (s : State) : List Instr :=
  if s.lead.sendList ≠ [] ∧ s.outwardSlot then [.rosterSendList] else []

/-- The expiries of the consist unit, the lead machine, the sequencer and the store that are due. -/
def State.leadDue (s : State) : List Instr :=
  s.listDue ++ s.dueAt s.mgmt.storeTimer .storeTimerExpiry ++ s.dueAt s.lead.window .callWindowExpiry ++
  s.dueAt s.consist.placing .placingTimeout ++ s.dueAt s.consist.leadLoss .leadLossExpiry ++
  s.dueAt s.consist.holdOff .holdOffExpiry ++ s.dueAt s.survey.period .surveyPeriodExpiry ++
  s.dueAt s.seq.passTimer .passTimeout ++ s.dueAt s.seq.periodTimer .heatingPeriodExpiry

/-- The expiry of a channel's timer, by its state (R114). -/
def State.channelDue (s : State) (c : Side) : List Instr :=
  match (s.channel c).state with
  | .warning => s.dueAt (s.channel c).timer (.warnTimerExpiry c)
  | .closing => s.dueAt (s.channel c).timer (.closeTimerExpiry c)
  | .recycle => s.dueAt (s.channel c).timer (.recycleTimerExpiry c)
  | .locked | .released | .fault | .isolated => []

/-- The expiries of the door unit that are due. -/
def State.doorsDue (s : State) : List Instr :=
  s.channelDue .a ++ s.channelDue .b ++ s.dueAt s.doors.chime .chimeTimerExpiry ++
  s.dueAt (s.doors.tone.bind (·.phase)) .tonePhase

/-- The due time of a raise schedule that has not yet come (R151). -/
def State.raiseTimer (s : State) : Timer :=
  match s.heat.raise with
  | some r => if r.waiting then none else some r.due
  | none => none

/-- The expiries of the heating unit that are due. A supply sample is the sender's: its value comes from outside. -/
def State.heatDue (s : State) : List Instr :=
  ([0, 1, 2, 3] : List (Fin 4)).flatMap (fun i => s.dueAt (s.heat.minOff.getD i.val none) (.minOffExpiry i)) ++
  s.dueAt s.raiseTimer .stageDue ++ s.dueAt s.heat.holdover .holdoverExpiry

/-- The expiries of the inputs' stability timers that are due. -/
def State.inputsDue (s : State) : List Instr :=
  allInputs.flatMap (fun i => s.dueAt (s.input i).timer (.stabilityTimerExpiry i))

/-- The node's own events that are due, in the model's fixed order. -/
def State.due (s : State) : List Instr := s.portsDue ++ s.leadDue ++ s.doorsDue ++ s.heatDue ++ s.inputsDue

/-- What an empty command queue leaves to the timebase: the first of the node's own events that is due is queued, or,
where none is, the clock goes on by 1 ms. -/
def tick (s : State) : State :=
  match s.due with
  | c :: _ => { s with pending := [c] }
  | [] => { s with now := s.now + 1 }

end Sys2Proof.Machine
end

