-- ==== Sys2Proof/Machine/ExecDoors.lean ====
section
/-! DEFINITION. The meanings of the door unit's expiries (file 06). -/

namespace Sys2Proof.Machine

/-- WARN_TIMER_EXPIRY (R115). -/
def execWarnTimerExpiry (c : Side) (s : State) : Result := event (onChannelTimer c .warning (enterClosing c)) s

/-- CLOSE_TIMER_EXPIRY (R117). -/
def execCloseTimerExpiry (c : Side) (s : State) : Result := event (onChannelTimer c .closing (closeExpired c)) s

/-- RECYCLE_TIMER_EXPIRY (R118). -/
def execRecycleTimerExpiry (c : Side) (s : State) : Result := event (onChannelTimer c .recycle (enterClosing c)) s

/-- CHIME_TIMER_EXPIRY (R125). -/
def execChimeTimerExpiry (s : State) : Result := event (onExpiry s.doors.chime (chime 0)) s

/-- TONE_PHASE (R124). -/
def execTonePhase (s : State) : Result := event tonePhaseExpired s

end Sys2Proof.Machine
end

