-- ==== Sys2Proof/Machine/ExecFrames.lean ====
section
/-! DEFINITION. The meanings of the frames (files 01 to 05, 07, 09): each is a whole frame at a port, received by R7 and
handed to the relay engine. What the relay engine and the units make of it goes by the frame's own fields. -/

namespace Sys2Proof.Machine

/-- CALL (R25, R26, R61, R66, R67). -/
def execCall (p : Port) (f : LineFrame) (s : State) : Result := event (receive p (frameOf f .call [])) s

/-- ANSWER (R33, R34, R49). -/
def execAnswer (p : Port) (f : LineFrame) (s : State) : Result := event (receive p (frameOf f .answer [])) s

/-- TAIL (R33, R34, R50 to R52). -/
def execTail (p : Port) (f : LineFrame) (s : State) : Result := event (receive p (frameOf f .tail [])) s

/-- ROSTER (R27, R28, R63). -/
def execRoster (p : Port) (f : LineFrame) (s : State) : Result := event (receive p (frameOf f .roster [])) s

/-- ROSTER_SEND_LIST (R53, R54; log 16). -/
def execRosterSendList (s : State) : Result := event sendListGoesOn s

/-- CONFIRM (R27, R28, R31, R64). -/
def execConfirm (p : Port) (f : LineFrame) (s : State) : Result := event (receive p (frameOf f .confirm [])) s

/-- REFLECTED_CONFIRM (R33, R34, R55, R56). -/
def execReflectedConfirm (p : Port) (f : LineFrame) (s : State) : Result := event (receive p (frameOf f .confirm [])) s

/-- SURVEY (R25 to R28, R31, R80, R81, R130 to R133, R180). -/
def execSurvey (p : Port) (f : LineFrame) (s : State) : Result := event (receive p (frameOf f .survey [])) s

/-- REFLECTED_SURVEY (R33, R34, R83, R84). -/
def execReflectedSurvey (p : Port) (f : LineFrame) (s : State) : Result := event (receive p (frameOf f .survey [])) s

/-- ORDER (R27, R28, R32, R37, R87 to R100). -/
def execOrder (p : Port) (f : LineFrame) (s : State) : Result := event (receive p (frameOf f .order [])) s

/-- HEAT_PASS (R27, R28, R31, R163 to R168). -/
def execHeatPass (p : Port) (f : LineFrame) (s : State) : Result := event (receive p (frameOf f .heatPass [])) s

/-- REFLECTED_HEAT_PASS (R33, R34, R159). -/
def execReflectedHeatPass (p : Port) (f : LineFrame) (s : State) : Result := event (receive p (frameOf f .heatPass [])) s

/-- HEAT_SET (R25, R27, R28, R32, R149, R169). -/
def execHeatSet (p : Port) (f : LineFrame) (s : State) : Result := event (receive p (frameOf f .heatSet [])) s

/-- REPLY (R33, R34). -/
def execReply (p : Port) (f : LineFrame) (s : State) : Result := event (receive p (frameOf f .reply [])) s

/-- LEAD_STATUS_DROPPED (R24, R39, R40). -/
def execLeadStatusDropped (p : Port) (f : LineFrame) (s : State) : Result := event (receive p (frameOf f .leadStatus [])) s

end Sys2Proof.Machine
end

