-- ==== Sys2Proof/Machine/ExecHeat.lean ====
section
/-! DEFINITION. The meanings of the heating unit's samples and expiries (file 08). -/

namespace Sys2Proof.Machine

/-- SUPPLY_SAMPLE (R140 to R143). -/
def execSupplySample (v : BitVec 12) (s : State) : Result := event (onExpiry s.heat.sample (supplySample v.toNat)) s

/-- STAGE_DUE (R151). -/
def execStageDue (s : State) : Result := event dueArrives s

/-- MIN_OFF_EXPIRY (R148, R151). -/
def execMinOffExpiry (stage : Fin 4) (s : State) : Result :=
  event (onExpiry (s.heat.minOff.getD stage.val none) (minOffExpired stage.val)) s

/-- HOLDOVER_EXPIRY (R152). -/
def execHoldoverExpiry (s : State) : Result := event (onExpiry s.heat.holdover holdoverExpired) s

end Sys2Proof.Machine
end

