-- ==== Sys2Proof/Machine/ExecLine.lean ====
section
/-! DEFINITION. The meanings of the port units' commands (file 01). -/

namespace Sys2Proof.Machine

/-- SYNC_CHARACTER (R2). -/
def execSyncCharacter (p : Port) (bitTime : Nat) (c : Character) (s : State) : Result :=
  plainEvent (hearSync p bitTime c) s

/-- SYNC_ERROR (R2, R8). -/
def execSyncError (p : Port) (bitTime : Nat) (c : Character) (s : State) : Result :=
  plainEvent (syncFails p bitTime c) s

/-- PARITY_ERROR (R1, R8). -/
def execParityError (p : Port) (c : Character) (s : State) : Result :=
  plainEvent (failFrame p (!charGood c) .discarding) s

/-- LENGTH_ERROR (R6, R8). -/
def execLengthError (p : Port) (kind length : Byte) (count : Option Byte) (s : State) : Result :=
  plainEvent (failFrame p (!lengthCharsGood kind length count) .discarding) s

/-- GAP_ERROR (R5, R8). -/
def execGapError (p : Port) (markBits : Nat) (s : State) : Result :=
  plainEvent (failFrame p (overGap markBits) .hunt) s

/-- CHECK_ERROR (R7, R8). -/
def execCheckError (p : Port) (k : Kind) (f : LineFrame) (s : State) : Result :=
  plainEvent (failFrame p (lengthGood k f.body && !(frameOf f k []).checkGood) .hunt) s

/-- RETURN_TO_HUNT (R5). -/
def execReturnToHunt (p : Port) (markBits : Nat) (s : State) : Result := plainEvent (backToHunt p markBits) s

/-- BREAK (R9, R10). -/
def execLineBreak (p : Port) (spaceBits : Nat) (s : State) : Result := plainEvent (takeBreak p spaceBits) s

/-- LINE_HOLD_WATCH_ARMED (R10). -/
def execLineHoldWatchArmed (s : State) : Result := plainEvent armWatch s

/-- LINE_HOLD_RESET (R10, R189). -/
def execLineHoldReset (s : State) : Result := plainEvent lineHold s

/-- LOCK_TIMER_EXPIRY (R3). -/
def execLockTimerExpiry (s : State) : Result := plainEvent (onExpiry s.cab.lockTimer lockExpired) s

/-- SILENCE_TIMER_EXPIRY (R11). -/
def execSilenceTimerExpiry (e : End) (s : State) : Result :=
  plainEvent (onExpiry (s.endUnit e).silence (silenceExpired e)) s

/-- IDLE_TIMER_EXPIRY (R12). -/
def execIdleTimerExpiry (e : End) (s : State) : Result :=
  plainEvent (onExpiry (s.endUnit e).idleTimer (idleExpired e)) s

/-- TRANSMIT_START (R4, R12, R15, R16). -/
def execTransmitStart (p : Port) (markBits : Nat) (s : State) : Result := plainEvent (startSending p markBits) s

/-- TRANSMIT_COMPLETE (R12, R13, R187). -/
def execTransmitComplete (p : Port) (s : State) : Result := plainEvent (sent p) s

/-- COLLISION (R16, R187). -/
def execCollision (p : Port) (s : State) : Result := plainEvent (collide p) s

/-- IDLE (R7, R11). -/
def execIdle (p : Port) (f : LineFrame) (s : State) : Result := plainEvent (receive p (frameOf f .idle [])) s

end Sys2Proof.Machine
end

