-- ==== Sys2Proof/Machine/ExecLocal.lean ====
section
/-! DEFINITION. The meanings of the local lines' commands (file 10) and of the supply (R189). -/

namespace Sys2Proof.Machine

/-- RAW_EDGE (R172). -/
def execRawEdge (i : Input) (active : Bool) (s : State) : Result := .next (rawEdgeAt i active s)

/-- STABILITY_TIMER_EXPIRY (R172, R173). -/
def execStabilityTimerExpiry (i : Input) (s : State) : Result := event (onExpiry (s.input i).timer (stabilityExpired i)) s

/-- SUPPLY_RESET (R189). -/
def execSupplyReset (s : State) : Result := .next (resetBegin .supply s)

/-- SUPPLY_ABOVE_UPPER_THRESHOLD (R189). -/
def execSupplyAboveUpperThreshold (s : State) : Result := .next (if s.supplyLow then resetEnd s else s)

end Sys2Proof.Machine
end

