-- ==== Sys2Proof/Machine/ExecRequests.lean ====
section
/-! DEFINITION. The meanings of the REQUEST frames (file 11), each with the payload bytes its command fixes, and of the
store timer and the REQUESTED reset. -/

namespace Sys2Proof.Machine

/-- BAD_REQUEST_CODE (R181). -/
def execBadRequestCode (p : Port) (code : Byte) (f : LineFrame) (s : State) : Result :=
  event (receive p (frameOf f .request [code])) s

/-- READ_ITEMS (R29, R38, R40, R181, R182). -/
def execReadItems (p : Port) (f : LineFrame) (s : State) : Result :=
  event (receive p (frameOf f .request [1])) s

/-- WRITE_ITEMS (R29, R38, R40, R181, R109, R141, R177, R183). -/
def execWriteItems (p : Port) (f : LineFrame) (s : State) : Result :=
  event (receive p (frameOf f .request [2])) s

/-- READ_ORDER_TABLE (R29, R38, R40, R181, R102, R184). -/
def execReadOrderTable (p : Port) (f : LineFrame) (s : State) : Result :=
  event (receive p (frameOf f .request [3, 0])) s

/-- READ_STAGE_TABLE (R29, R38, R40, R181, R139, R184). -/
def execReadStageTable (p : Port) (f : LineFrame) (s : State) : Result :=
  event (receive p (frameOf f .request [3, 1])) s

/-- READ_CONSIST_TABLE (R29, R38, R40, R181, R184). -/
def execReadConsistTable (p : Port) (f : LineFrame) (s : State) : Result :=
  event (receive p (frameOf f .request [3])) s

/-- WRITE_ORDER_TABLE (R29, R38, R40, R181, R101, R184). -/
def execWriteOrderTable (p : Port) (f : LineFrame) (s : State) : Result :=
  event (receive p (frameOf f .request [4, 0])) s

/-- WRITE_STAGE_TABLE (R29, R38, R40, R181, R139, R184). -/
def execWriteStageTable (p : Port) (f : LineFrame) (s : State) : Result :=
  event (receive p (frameOf f .request [4])) s

/-- READ_MAP (R29, R38, R40, R181, R185). -/
def execReadMap (p : Port) (f : LineFrame) (s : State) : Result :=
  event (receive p (frameOf f .request [5])) s

/-- READ_EVENTS (R29, R38, R40, R181, R178). -/
def execReadEvents (p : Port) (f : LineFrame) (s : State) : Result :=
  event (receive p (frameOf f .request [6])) s

/-- STORE (R29, R38, R40, R181, R188). -/
def execStore (p : Port) (f : LineFrame) (s : State) : Result :=
  event (receive p (frameOf f .request [7])) s

/-- STORE_TIMER_EXPIRY (R188). -/
def execStoreTimerExpiry (s : State) : Result := plainEvent (onExpiry s.mgmt.storeTimer storeDone) s

/-- NODE_RESET (R29, R38, R40, R181, R187). -/
def execNodeReset (p : Port) (f : LineFrame) (s : State) : Result :=
  event (receive p (frameOf f .request [8])) s

/-- REQUESTED_RESET (R187, R189; log 15, log 38). -/
def execRequestedReset (s : State) : Result := plainEvent pendingReset s

/-- START_ROLL_CALL (R29, R38, R40, R181, R45, R47, R48, R186). -/
def execStartRollCall (p : Port) (f : LineFrame) (s : State) : Result :=
  event (receive p (frameOf f .request [9])) s

/-- STOP (R29, R38, R40, R181, R58, R186). -/
def execStop (p : Port) (f : LineFrame) (s : State) : Result :=
  event (receive p (frameOf f .request [10])) s

/-- HEAT_SETUP (R29, R38, R40, R181, R156, R186). -/
def execHeatSetup (p : Port) (f : LineFrame) (s : State) : Result :=
  event (receive p (frameOf f .request [11])) s

end Sys2Proof.Machine
end

