-- ==== Sys2Proof/Machine/ExecTimers.lean ====
section
/-! DEFINITION. The meanings of the expiries of the consist unit, the lead machine and the allocation sequencer (files 03,
04, 09). -/

namespace Sys2Proof.Machine

/-- CALL_WINDOW_EXPIRY (R52, R55). -/
def execCallWindowExpiry (s : State) : Result := event (onExpiry s.lead.window windowExpired) s

/-- PLACING_TIMEOUT (R44, R65). -/
def execPlacingTimeout (s : State) : Result := event (onExpiry s.consist.placing returnToUnplaced) s

/-- LEAD_LOSS_EXPIRY (R76, R77). -/
def execLeadLossExpiry (s : State) : Result := plainEvent (onExpiry s.consist.leadLoss leadLossExpired) s

/-- HOLD_OFF_EXPIRY (R74). -/
def execHoldOffExpiry (s : State) : Result := plainEvent (onExpiry s.consist.holdOff holdOffExpired) s

/-- SURVEY_PERIOD_EXPIRY (R78, R79, R82). -/
def execSurveyPeriodExpiry (s : State) : Result := event (onExpiry s.survey.period surveyPeriodExpired) s

/-- HEATING_PERIOD_EXPIRY (R157, R158). -/
def execHeatingPeriodExpiry (s : State) : Result := event (onExpiry s.seq.periodTimer heatingPeriodExpired) s

/-- PASS_TIMEOUT (R160). -/
def execPassTimeout (s : State) : Result := event (onExpiry s.seq.passTimer passTimedOut) s

end Sys2Proof.Machine
end

