-- ==== Sys2Proof/Machine/Dispatch.lean ====
section
/-! DEFINITION. The meaning of every command: one arm per constructor of Instr. -/

namespace Sys2Proof.Machine

def exec (i : Instr) (s : State) : Host.Outcome State Fault Refusal :=
  match i with
  | .syncCharacter p bitTime c => Sys2Proof.Machine.execSyncCharacter p bitTime c s
  | .syncError p bitTime c => Sys2Proof.Machine.execSyncError p bitTime c s
  | .parityError p c => Sys2Proof.Machine.execParityError p c s
  | .lengthError p kind length count => Sys2Proof.Machine.execLengthError p kind length count s
  | .gapError p markBits => Sys2Proof.Machine.execGapError p markBits s
  | .checkError p k f => Sys2Proof.Machine.execCheckError p k f s
  | .returnToHunt p markBits => Sys2Proof.Machine.execReturnToHunt p markBits s
  | .lineBreak p spaceBits => Sys2Proof.Machine.execLineBreak p spaceBits s
  | .lineHoldWatchArmed => Sys2Proof.Machine.execLineHoldWatchArmed s
  | .lineHoldReset => Sys2Proof.Machine.execLineHoldReset s
  | .lockTimerExpiry => Sys2Proof.Machine.execLockTimerExpiry s
  | .silenceTimerExpiry e => Sys2Proof.Machine.execSilenceTimerExpiry e s
  | .idleTimerExpiry e => Sys2Proof.Machine.execIdleTimerExpiry e s
  | .transmitStart p markBits => Sys2Proof.Machine.execTransmitStart p markBits s
  | .transmitComplete p => Sys2Proof.Machine.execTransmitComplete p s
  | .collision p => Sys2Proof.Machine.execCollision p s
  | .idle p f => Sys2Proof.Machine.execIdle p f s
  | .call p f => Sys2Proof.Machine.execCall p f s
  | .answer p f => Sys2Proof.Machine.execAnswer p f s
  | .tail p f => Sys2Proof.Machine.execTail p f s
  | .roster p f => Sys2Proof.Machine.execRoster p f s
  | .rosterSendList => Sys2Proof.Machine.execRosterSendList s
  | .confirm p f => Sys2Proof.Machine.execConfirm p f s
  | .reflectedConfirm p f => Sys2Proof.Machine.execReflectedConfirm p f s
  | .survey p f => Sys2Proof.Machine.execSurvey p f s
  | .reflectedSurvey p f => Sys2Proof.Machine.execReflectedSurvey p f s
  | .order p f => Sys2Proof.Machine.execOrder p f s
  | .heatPass p f => Sys2Proof.Machine.execHeatPass p f s
  | .reflectedHeatPass p f => Sys2Proof.Machine.execReflectedHeatPass p f s
  | .heatSet p f => Sys2Proof.Machine.execHeatSet p f s
  | .reply p f => Sys2Proof.Machine.execReply p f s
  | .leadStatusDropped p f => Sys2Proof.Machine.execLeadStatusDropped p f s
  | .badRequestCode p code f => Sys2Proof.Machine.execBadRequestCode p code f s
  | .readItems p f => Sys2Proof.Machine.execReadItems p f s
  | .writeItems p f => Sys2Proof.Machine.execWriteItems p f s
  | .readOrderTable p f => Sys2Proof.Machine.execReadOrderTable p f s
  | .readStageTable p f => Sys2Proof.Machine.execReadStageTable p f s
  | .readConsistTable p f => Sys2Proof.Machine.execReadConsistTable p f s
  | .writeOrderTable p f => Sys2Proof.Machine.execWriteOrderTable p f s
  | .writeStageTable p f => Sys2Proof.Machine.execWriteStageTable p f s
  | .readMap p f => Sys2Proof.Machine.execReadMap p f s
  | .readEvents p f => Sys2Proof.Machine.execReadEvents p f s
  | .store p f => Sys2Proof.Machine.execStore p f s
  | .storeTimerExpiry => Sys2Proof.Machine.execStoreTimerExpiry s
  | .nodeReset p f => Sys2Proof.Machine.execNodeReset p f s
  | .requestedReset => Sys2Proof.Machine.execRequestedReset s
  | .startRollCall p f => Sys2Proof.Machine.execStartRollCall p f s
  | .stop p f => Sys2Proof.Machine.execStop p f s
  | .heatSetup p f => Sys2Proof.Machine.execHeatSetup p f s
  | .callWindowExpiry => Sys2Proof.Machine.execCallWindowExpiry s
  | .placingTimeout => Sys2Proof.Machine.execPlacingTimeout s
  | .leadLossExpiry => Sys2Proof.Machine.execLeadLossExpiry s
  | .holdOffExpiry => Sys2Proof.Machine.execHoldOffExpiry s
  | .surveyPeriodExpiry => Sys2Proof.Machine.execSurveyPeriodExpiry s
  | .heatingPeriodExpiry => Sys2Proof.Machine.execHeatingPeriodExpiry s
  | .passTimeout => Sys2Proof.Machine.execPassTimeout s
  | .warnTimerExpiry c => Sys2Proof.Machine.execWarnTimerExpiry c s
  | .closeTimerExpiry c => Sys2Proof.Machine.execCloseTimerExpiry c s
  | .recycleTimerExpiry c => Sys2Proof.Machine.execRecycleTimerExpiry c s
  | .chimeTimerExpiry => Sys2Proof.Machine.execChimeTimerExpiry s
  | .tonePhase => Sys2Proof.Machine.execTonePhase s
  | .supplySample v => Sys2Proof.Machine.execSupplySample v s
  | .stageDue => Sys2Proof.Machine.execStageDue s
  | .minOffExpiry stage => Sys2Proof.Machine.execMinOffExpiry stage s
  | .holdoverExpiry => Sys2Proof.Machine.execHoldoverExpiry s
  | .rawEdge inp active => Sys2Proof.Machine.execRawEdge inp active s
  | .stabilityTimerExpiry inp => Sys2Proof.Machine.execStabilityTimerExpiry inp s
  | .supplyReset => Sys2Proof.Machine.execSupplyReset s
  | .supplyAboveUpperThreshold => Sys2Proof.Machine.execSupplyAboveUpperThreshold s

end Sys2Proof.Machine
end

