-- ==== Sys2Proof/Safety.lean ====
section
/-! DEFINITION. The terms in which the claims speak: a command as a frame at a port, what a dropped frame and a reset
leave, and the invariants of the node. -/

namespace Sys2Proof

open Machine

/-- The port and the frame of a command that is a whole frame at a port; none for any other command. -/
def Instr.arriving : Instr → Option (Port × Frame)
  | .idle p f => some (p, frameOf f .idle [])
  | .call p f => some (p, frameOf f .call [])
  | .answer p f => some (p, frameOf f .answer [])
  | .tail p f => some (p, frameOf f .tail [])
  | .roster p f => some (p, frameOf f .roster [])
  | .confirm p f => some (p, frameOf f .confirm [])
  | .reflectedConfirm p f => some (p, frameOf f .confirm [])
  | .survey p f => some (p, frameOf f .survey [])
  | .reflectedSurvey p f => some (p, frameOf f .survey [])
  | .order p f => some (p, frameOf f .order [])
  | .heatPass p f => some (p, frameOf f .heatPass [])
  | .reflectedHeatPass p f => some (p, frameOf f .heatPass [])
  | .heatSet p f => some (p, frameOf f .heatSet [])
  | .reply p f => some (p, frameOf f .reply [])
  | .leadStatusDropped p f => some (p, frameOf f .leadStatus [])
  | .badRequestCode p code f => some (p, frameOf f .request [code])
  | .readItems p f => some (p, frameOf f .request [1])
  | .writeItems p f => some (p, frameOf f .request [2])
  | .readOrderTable p f => some (p, frameOf f .request [3, 0])
  | .readStageTable p f => some (p, frameOf f .request [3, 1])
  | .readConsistTable p f => some (p, frameOf f .request [3])
  | .writeOrderTable p f => some (p, frameOf f .request [4, 0])
  | .writeStageTable p f => some (p, frameOf f .request [4])
  | .readMap p f => some (p, frameOf f .request [5])
  | .readEvents p f => some (p, frameOf f .request [6])
  | .store p f => some (p, frameOf f .request [7])
  | .nodeReset p f => some (p, frameOf f .request [8])
  | .startRollCall p f => some (p, frameOf f .request [9])
  | .stop p f => some (p, frameOf f .request [10])
  | .heatSetup p f => some (p, frameOf f .request [11])
  | .syncCharacter _ _ _ | .syncError _ _ _ | .parityError _ _ | .lengthError _ _ _ _ | .gapError _ _
  | .checkError _ _ _ | .returnToHunt _ _ | .lineBreak _ _ | .lineHoldWatchArmed | .lineHoldReset | .lockTimerExpiry
  | .silenceTimerExpiry _ | .idleTimerExpiry _ | .transmitStart _ _ | .transmitComplete _ | .collision _
  | .rosterSendList | .storeTimerExpiry | .requestedReset | .callWindowExpiry | .placingTimeout | .leadLossExpiry
  | .holdOffExpiry | .surveyPeriodExpiry | .heatingPeriodExpiry | .passTimeout | .warnTimerExpiry _
  | .closeTimerExpiry _ | .recycleTimerExpiry _ | .chimeTimerExpiry | .tonePhase | .supplySample _ | .stageDue
  | .minOffExpiry _ | .holdoverExpiry | .rawEdge _ _ | .stabilityTimerExpiry _ | .supplyReset
  | .supplyAboveUpperThreshold => none

end Sys2Proof

namespace Sys2Proof.Machine

/-! ### Between events -/

/-- The state between events: what every event settles at its end has been settled (R124, R146, R147). The tone sounds
exactly on demand, the energized level stands at or below the effective target, and a raise schedule stands only where
there is something to raise. -/
def State.atRest (s : State) : Prop :=
  s.scratch = Scratch.rest ∧ s.doors.tone.isSome = s.toneDemand ∧ s.heat.level ≤ s.teff ∧
    (s.heat.raise.isSome = true → s.heat.level < s.teff)

/-! ### A frame at a port -/

/-- The rate at which a port receives (R7). -/
def State.rateAt (s : State) (p : Port) : LineRate := (s.port p).lock.getD defaultRate

/-- A whole frame with good length and check has come in at a port that was assembling it (R5 to R7). -/
def Heard (p : Port) (f : Frame) (s : State) : Prop :=
  s.supplyLow = false ∧ s.atRest ∧ (s.port p).rx = .assembling ∧ lengthGood f.kind f.payload = true ∧
    f.checkGood = true

/-- The state in which the relay engine takes a frame that has passed its checks at a port (R7, R11, R72). -/
def heard (p : Port) (s : State) : State := passedChecks p (s.setPort p { s.port p with rx := .hunt, buffer := [] })

/-- `t` is `s` with one frame dropped at port `p`, which goes to `next`: counted once, and LINE_ERROR raised (R8). -/
def Dropped (p : Port) (next : RxState) (s t : State) : Prop :=
  t.port p = { s.port p with rx := next, buffer := [], lineErrors := min 255 ((s.port p).lineErrors + 1) } ∧
  (∀ ev, t.present ev = (s.present ev || ev == .lineError)) ∧ (∀ q, q ≠ p → t.port q = s.port q) ∧
  { t with pu1 := s.pu1, pu2 := s.pu2, puC := s.puC, events := s.events } = s

/-- A port unit whose lock is lost as its timer expires: a frame in assembly is dropped, counted, and its buffer emptied, and
the port is in HUNT again (R3, R8). -/
def PortUnit.unlocked (u : PortUnit) : PortUnit :=
  if u.rx = .assembling then
    { u with lock := none, rx := .hunt, buffer := [], lineErrors := min 255 (u.lineErrors + 1) }
  else { u with lock := none }

/-- `t` is `s` but for the ports. -/
def OnlyPorts (s t : State) : Prop := { t with pu1 := s.pu1, pu2 := s.pu2, puC := s.puC } = s

/-- Port `p`'s unit in `t` is that in `s` with `qs` joined behind its queue (R13). -/
def Queues (p : Port) (qs : List Queued) (s t : State) : Prop :=
  t.port p = { s.port p with queue := (s.port p).queue ++ qs }

/-- Port `p` has room for `n` more frames (R13). -/
def State.roomFor (s : State) (p : Port) (n : Nat) : Prop := (s.port p).queue.length + n ≤ 4

/-- A frame as a queue holds it, at the default rate (R4). -/
def queued (f : Frame) : Queued := ⟨f, defaultRate, false⟩

/-! ### Roll call at the lead -/

/-- A frame of kind `k` for the lead in PLACING at position 1 has come in at its outward end `e` (R24, R34). -/
def LeadHears (e : End) (k : Kind) (f : LineFrame) (s : State) : Prop :=
  Heard (.line e) (frameOf f k []) s ∧ acceptedOnEnd (frameOf f k []) = true ∧ s.consist.state = .placing ∧
    s.consist.position = 1 ∧ s.lead.role = true ∧ s.consist.leadEnd = some e.other

/-- A LEAD STATUS that shows the state `shown` joins the cab port's queue (R59). -/
def StatusSent (shown u t : State) : Prop :=
  ∃ g, Queues .cab [queued g] u t ∧ g.kind = .leadStatus ∧ g.payload = leadStatusPayload shown ∧ g.leadward = true ∧
    g.hop = 0 ∧ g.dest = 0 ∧ g.src = byteOf t.consist.position ∧ g.checkGood = true

/-- The lead fails with its node left in PLACING, at the moment `clock`: the table as it stood, the PLACING timer started, one
LEAD STATUS, and nothing else (R57, R59, R65). -/
def FailsPlacing (r : Reason) (clock : Nat) (u t : State) : Prop :=
  t.lead = { u.lead with state := .failed, reason := r, window := none, sendList := [] } ∧
  t.consist = { u.consist with placing := some (clock + 3 * u.itemN Item.callWindow) } ∧ t.now = clock ∧
  StatusSent t u t ∧ (∀ e, t.port (.line e) = u.port (.line e)) ∧
  { t with now := u.now, puC := u.puC, lead := u.lead, consist := u.consist } = u

/-- The next attempt of a roll call, at the moment `clock`: the attempt counted, the lead's own record alone in the table, the
window running again and a CALL with the new attempt number outward at end `e` (R52). -/
def CallsAgain (e : End) (clock : Nat) (u t : State) : Prop :=
  t.lead = { u.lead with attempt := u.lead.attempt + 1, window := some (clock + u.itemN Item.callWindow) } ∧
  t.now = clock ∧ (∀ p, 2 ≤ p → p ≤ 32 → recordAt t.consist.table p = none) ∧
  recordAt t.consist.table 1 = recordAt u.consist.table 1 ∧
  (∃ g, Queues (.line e) [queued g] u t ∧ g.kind = .call ∧ g.payload = [byteOf (u.lead.attempt + 1)] ∧ g.hop = 1 ∧
    g.src = 1 ∧ g.dest = 255 ∧ g.leadward = false ∧ g.checkGood = true) ∧
  (∀ q, q ≠ .line e → t.port q = u.port q) ∧
  { t with now := u.now, pu1 := u.pu1, pu2 := u.pu2, lead := u.lead,
           consist := { t.consist with table := u.consist.table } } = u

/-- The CONFIRM of a lead with consist length `n` and check `k` (R54). -/
def leadConfirm (n : Nat) (k : Word) : Frame := leadFrame .confirm ([byteOf n] ++ wordBytes k ++ [0])

/-- What a confirm round over the first `n` positions of a table sends: a ROSTER for every four positions in ascending order,
and the CONFIRM (R53, R54). -/
def roundFrames (table : ConsistTable) (n : Nat) : List Queued :=
  (List.range ((n + 3) / 4)).map (fun k => queued (leadFrame .roster
    ([byteOf (4 * k + 1), byteOf (min 4 (n - 4 * k))] ++
      ((table.list.drop (4 * k)).take (min 4 (n - 4 * k))).flatMap placeBytes))) ++
  [queued (leadConfirm n (consistCheck table n))]

/-- A whole confirm round has gone into the queue of end `e`, at the moment `clock`: CONFIRMING with the window running, the
check worked out, one LEAD STATUS (R53, R54, R59). -/
def RoundSent (e : End) (clock : Nat) (u t : State) : Prop :=
  t.lead.state = .confirming ∧ t.lead.window = some (clock + u.itemN Item.callWindow) ∧ t.lead.sendList = [] ∧
  t.consist.check = consistCheck t.consist.table t.consist.length ∧ t.now = clock ∧
  Queues (.line e) (roundFrames t.consist.table t.consist.length) u t ∧ StatusSent t u t ∧
  t.port (.line e.other) = u.port (.line e.other) ∧
  { t with now := u.now, pu1 := u.pu1, pu2 := u.pu2, puC := u.puC, lead := u.lead, consist := u.consist } = u

/-- A roll call has started at a node with one neighbour, at end `e`, at the moment `clock` (R45, R47, R48, R156): the role
held, CALLING, PLACING at position 1 with the far end leadward and its own record alone in its table, what it ran as lead
stopped, and a CALL with attempt 1 outward with its window running. -/
def RollCallStarted (e : End) (clock : Nat) (s t : State) : Prop :=
  t.lead = ⟨true, .calling, .none, 0, 1, 1, some (clock + s.itemN Item.callWindow), []⟩ ∧
  t.consist.state = .placing ∧ t.consist.position = 1 ∧ t.consist.leadEnd = some e.other ∧
  (∃ own, t.consist.table = tableWith 1 own ∧ own.identity = s.identity ∧ own.position = 1) ∧
  t.consist.length = 0 ∧ t.consist.check = 0 ∧ t.consist.placing = none ∧ t.consist.leadLoss = none ∧
  t.survey.period = none ∧ t.survey.outstanding = none ∧ t.seq.cycle = none ∧ t.seq.periodTimer = none ∧
  t.seq.passTimer = none ∧ (s.lead.role = false → t.seq.budget = s.itemN Item.defaultBudget ∧
    t.seq.demand = s.itemN Item.defaultDemand ∧ t.seq.period = s.itemN Item.defaultPeriod) ∧
  (∃ g, Queues (.line e) [queued g] s t ∧ g.kind = .call ∧ g.payload = [1] ∧ g.hop = 1 ∧ g.src = 1 ∧ g.dest = 255 ∧
    g.checkGood = true) ∧
  t.port (.line e.other) = s.port (.line e.other) ∧ t.doors = s.doors ∧ t.items = s.items ∧
  t.heat.level = s.heat.level ∧ t.heat.target = s.heat.target

/-! ### ROSTER and CONFIRM at a node -/

/-- Entry `i` of a ROSTER, counting from 0 (R19). -/
def rosterRecord (body : List Byte) (i : Nat) : CoachRecord := CoachRecord.ofBytes (body.drop (2 + 10 * i))

/-- A node stores entry `i` of a ROSTER: there is such an entry, its position is 32 at most and not the node's own, and its
identity is not the node's own (R63). -/
def rosterStores (body : List Byte) (s : State) (i : Nat) : Bool :=
  i < (byteAt body 1).toNat && (byteAt body 0).toNat + i ≤ 32 && (byteAt body 0).toNat + i ≠ s.consist.position &&
    (rosterRecord body i).identity ≠ s.identity

/-- A sweep `g` taken at end `e` goes on outward, or back from the end node (R28, R31). -/
def SweepGoesOn (e : End) (g : Frame) (s t : State) : Prop :=
  g.hop = s.consist.position ∧ g.checkGood = true ∧
  (s.alive e.other = true → g.leadward = false ∧
    Queues (.line e.other) [⟨g, s.rateAt (.line e), false⟩] (heard (.line e) s) t) ∧
  (s.alive e.other = false → g.leadward = true ∧ g.reflected = true ∧
    Queues (.line e) [⟨g, s.rateAt (.line e), false⟩] (heard (.line e) s) t)

/-! ### Door channels -/

/-- A channel in LOCKED (R116), in ISOLATED (R121), and in FAULT with a cause (R123), its other fields kept. -/
def Channel.inLocked (ch : Channel) : Channel := { ch with state := .locked, hold := false, timer := none, retries := 0 }
def Channel.inIsolated (ch : Channel) : Channel :=
  { ch with state := .isolated, hold := false, timer := none, retries := 0 }
def Channel.inFault (ch : Channel) (cause : FaultCause) : Channel :=
  { ch with state := .fault, hold := false, timer := none, cause := cause }

/-- The channel as the end of its settling hold leaves it, by the filtered levels (R108). -/
def heldChannel (c : Side) (s : State) : Channel :=
  if s.active (.iso c) = true then { (s.channel c).inIsolated with cause := .none }
  else if s.allClosed c = true then { (s.channel c).inLocked with cause := .none }
  else (s.channel c).inFault .settledOpen

/-- The channel as it leaves ISOLATED, by its leaves (R122). -/
def returnedChannel (c : Side) (s : State) : Channel :=
  if s.allClosed c = true then (s.channel c).inLocked else (s.channel c).inFault .isolateRemoved

/-- Channel `c` takes the value `ch`, and a FAULT so entered raises its door-fault event and nothing else is raised (R123);
the other channel, the consist unit and the lead machine are untouched. -/
def ChannelBecomes (c : Side) (ch : Channel) (s t : State) : Prop :=
  t.channel c = ch ∧ (∀ c', c' ≠ c → t.channel c' = s.channel c') ∧
  (∀ ev, t.present ev = (s.present ev || (ev == doorFaultEvent c && decide (ch ≠ s.channel c) &&
    ch.state == .fault && !ch.hold))) ∧
  t.consist = s.consist ∧ t.lead = s.lead ∧ t.heat.target = s.heat.target

/-! ### Requests -/

/-- A REPLY joins the queue of end `e`, `u` being the state in which the responder takes the request (R29, R181). -/
def LineReply (e : End) (code : Byte) (st : Status) (data : List Byte) (u t : State) : Prop :=
  Queues (.line e) [queued (replyFrame u.consist.position code st data)] u t ∧
    ∀ q, q ≠ .line e → t.port q = u.port q

/-- A REPLY of the node's responder joins the cab port's queue (R181). -/
def CabReply (code : Byte) (st : Status) (data : List Byte) (s t : State) : Prop :=
  Queues .cab [queued (replyFrame s.consist.position code st data)] (heard .cab s) t ∧
    ∀ q, q ≠ .cab → t.port q = s.port q

/-- A request on the cab port has brought its REPLY and nothing else. -/
def OnlyReply (code : Byte) (st : Status) (data : List Byte) (s t : State) : Prop :=
  CabReply code st data s t ∧ OnlyPorts (heard .cab s) t

/-- A whole REQUEST with destination LOCAL on the cab port, whose payload begins with the bytes its command fixes, with no
reset pending and room for its REPLY (R38, R40). -/
def LocalRequest (fixed : List Byte) (f : LineFrame) (s : State) : Prop :=
  Heard .cab (frameOf f .request fixed) s ∧ f.dest = 0 ∧ s.mgmt.state ≠ .resetPending ∧ s.roomFor .cab 1

/-! ### Resets -/

/-- The store image a reset finds good (R188, R189). -/
def goodImage (s : State) : Option Image := if s.mgmt.store = .storing then none else s.mgmt.image

/-- What every reset leaves (R189), `s` being the state it found. -/
def AfterReset (cause : ResetCause) (s t : State) : Prop :=
  let im := (goodImage s).getD factoryImage
  (t.items = im.items ∧ t.orders = im.orders ∧ t.heat.stages = im.stages) ∧
  (∀ p, t.port p = PortUnit.reset) ∧ (∀ e, t.alive e = false) ∧ t.cab = ⟨none, .disarmed, none⟩ ∧
  t.directionErrors = 0 ∧ t.cabRefusals = 0 ∧ t.dispatch = Dispatcher.reset ∧
  t.consist = { Consist.reset with holdOff := t.consist.holdOff } ∧ t.lead = Lead.reset ∧
  t.survey = SurveyUnit.reset ∧ t.seq = Sequencer.reset im.items ∧ t.doors = Doors.reset im.items ∧
  t.heat = { Heat.reset im.stages with
    sample := t.heat.sample, minOff := t.heat.minOff, holdover := t.heat.holdover } ∧
  (∀ i, (t.input i).level = none ∧ (t.input i).raw = (s.input i).raw) ∧
  (∀ ev, t.present ev = (ev == .reset || (ev == .storeInvalid && (goodImage s).isNone))) ∧
  t.mgmt = ⟨.ready, none, if (goodImage s).isSome then .valid else .invalid, none, goodImage s, none, cause⟩ ∧
  t.pending = s.pending ∧ t.identity = s.identity

/-- What runs its time from the end of a reset (R12, R74, R140, R148, R152, R173). -/
def TimersFromEnd (t : State) : Prop :=
  (∀ e, (t.endUnit e).idleTimer = some (t.now + 100)) ∧
  t.consist.holdOff = some (t.now + t.itemN Item.silence) ∧ t.heat.sample = some (t.now + 10) ∧
  (∀ i : Fin 4, t.heat.minOff.getD i none =
    if t.itemN Item.minOff = 0 then none else some (t.now + t.itemN Item.minOff)) ∧
  t.heat.holdover = some (t.now + 1000 * t.itemN Item.holdover) ∧
  (∀ i, (t.input i).timer = some (t.now + t.itemN (Item.filter i)))

/-! ### Invariants -/

/-- The node's place in the train (R43, R69): position, leadward end and table go with the node consist state; a node with a
position has its own record at that position of its table, and no two records of a table carry one identity. -/
def State.placeInv (s : State) : Prop :=
  (s.holdsPosition = true → 1 ≤ s.consist.position ∧ s.consist.position ≤ 32 ∧ s.consist.leadEnd.isSome = true ∧
    ((recordAt s.consist.table s.consist.position).map (·.identity)) = some s.identity) ∧
  (∀ p q x y, recordAt s.consist.table p = some x → recordAt s.consist.table q = some y → x.identity = y.identity →
    p = q) ∧
  (s.holdsPosition = false → s.consist.position = 0 ∧ s.consist.leadEnd = none ∧ s.consist.table = emptyTable ∧
    s.consist.length = 0 ∧ s.consist.check = 0)

/-- The transmit queues and the frames under way (R13, R14, R35): never more than 4 frames in a queue, and every frame
carries the check of its own content. -/
def State.queueInv (s : State) : Prop :=
  (∀ p, (s.port p).queue.length ≤ 4 ∧ ∀ q ∈ (s.port p).queue, q.frame.checkGood = true) ∧
  (∀ f ∈ s.lead.sendList, f.checkGood = true)

/-- Released doors (R119, with what R108 and R121 keep beside it): a channel is in RELEASED only while the filtered ZSP is
active and its isolate input inactive; a channel out of ISOLATED and out of the settling hold has its isolate input
inactive; the settling hold is a FAULT. -/
def State.doorInv (s : State) : Prop :=
  ∀ c, ((s.channel c).state = .released → s.active .zsp = true) ∧
    ((s.channel c).state ≠ .isolated → (s.channel c).hold = false → s.inactive (.iso c) = true) ∧
    ((s.channel c).hold = true → (s.channel c).state = .fault)

/-- A side without leaves has its channel ISOLATED (R108, R109). -/
def State.leafInv (s : State) : Prop := ∀ c, s.leafCount c = 0 → (s.channel c).state = .isolated

/-- What the lead machine runs only in LEADING (R78, R157, R161), the role it needs for anything but STANDBY (R45, R46),
and the node it needs for a roll call in flight: PLACING at position 1, with no PLACING timer (R48). -/
def State.leadInv (s : State) : Prop :=
  (s.lead.state ≠ .leading → s.survey.period = none ∧ s.survey.outstanding = none ∧ s.seq.periodTimer = none ∧
    s.seq.passTimer = none ∧ s.seq.cycle = none) ∧
  (s.lead.role = false → s.lead.state = .standby) ∧
  (s.lead.state = .calling ∨ s.lead.state = .rostering ∨ s.lead.state = .confirming →
    s.consist.state = .placing ∧ s.consist.position = 1 ∧ s.consist.placing = none)

end Sys2Proof.Machine
end

