-- ==== Sys2Proof/WellFormed.lean ====
section
/-! DEFINITION. Well-formed commands: the operands spell the row they stand under. `exec` is total and gives every command
a meaning by the operands themselves; a well-formed one is what its row names. -/

namespace Sys2Proof

open Machine

/-- A frame whose length and check pass, as every frame handed on has (R6, R7). -/
def goodFrame (f : Frame) : Bool := lengthGood f.kind f.payload && f.checkGood

/-- A frame command: a good frame, with the REFLECTED flag as its row says. -/
def goodAs (k : Kind) (reflected : Bool) (f : LineFrame) : Bool :=
  let g := frameOf f k []
  goodFrame g && g.reflected == reflected

/-- A request command: a good REQUEST that begins with the bytes its row fixes. -/
def goodRequest (fixed : List Byte) (f : LineFrame) : Bool := goodFrame (frameOf f .request fixed)

/-- The first body byte, a table number, is none of `tables`; an absent one is none of them. -/
def tableNot (tables : List Byte) (f : LineFrame) : Bool :=
  match f.body with
  | t :: _ => !tables.contains t
  | [] => true

/-- The command's operands spell its row. Whether a sync character fails (R2) depends on the port's lock too, so every
SYNC_ERROR is well formed; the meaning tests it. -/
def Instr.wf : Instr → Bool
  | .syncCharacter _ _ c => c.data == syncByte && charGood c
  | .syncError _ _ _ => true
  | .parityError _ c => !charGood c
  | .lengthError _ kind length count => !lengthCharsGood kind length count
  | .gapError _ markBits => 44 < markBits
  | .checkError _ k f => lengthGood k f.body && !(frameOf f k []).checkGood
  | .returnToHunt _ markBits => 44 < markBits
  | .lineBreak _ spaceBits => 22 ≤ spaceBits
  | .lineHoldWatchArmed => true
  | .lineHoldReset => true
  | .lockTimerExpiry => true
  | .silenceTimerExpiry _ => true
  | .idleTimerExpiry _ => true
  | .transmitStart _ markBits => 11 ≤ markBits
  | .transmitComplete _ => true
  | .collision _ => true
  | .idle _ f => goodFrame (frameOf f .idle [])
  | .call _ f => goodFrame (frameOf f .call [])
  | .answer _ f => goodFrame (frameOf f .answer [])
  | .tail _ f => goodFrame (frameOf f .tail [])
  | .roster _ f => goodFrame (frameOf f .roster [])
  | .rosterSendList => true
  | .confirm _ f => goodAs .confirm false f
  | .reflectedConfirm _ f => goodAs .confirm true f
  | .survey _ f => goodAs .survey false f
  | .reflectedSurvey _ f => goodAs .survey true f
  | .order _ f => goodFrame (frameOf f .order [])
  | .heatPass _ f => goodAs .heatPass false f
  | .reflectedHeatPass _ f => goodAs .heatPass true f
  | .heatSet _ f => goodFrame (frameOf f .heatSet [])
  | .reply _ f => goodFrame (frameOf f .reply [])
  | .leadStatusDropped _ f => goodFrame (frameOf f .leadStatus [])
  | .badRequestCode _ code f => !(1 ≤ code.toNat && code.toNat ≤ 11) && goodRequest [code] f
  | .readItems _ f => goodRequest [1] f
  | .writeItems _ f => goodRequest [2] f
  | .readOrderTable _ f => goodRequest [3, 0] f
  | .readStageTable _ f => goodRequest [3, 1] f
  | .readConsistTable _ f => goodRequest [3] f && tableNot [0, 1] f
  | .writeOrderTable _ f => goodRequest [4, 0] f
  | .writeStageTable _ f => goodRequest [4] f && tableNot [0] f
  | .readMap _ f => goodRequest [5] f
  | .readEvents _ f => goodRequest [6] f
  | .store _ f => goodRequest [7] f
  | .storeTimerExpiry => true
  | .nodeReset _ f => goodRequest [8] f
  | .requestedReset => true
  | .startRollCall _ f => goodRequest [9] f
  | .stop _ f => goodRequest [10] f
  | .heatSetup _ f => goodRequest [11] f
  | .callWindowExpiry => true
  | .placingTimeout => true
  | .leadLossExpiry => true
  | .holdOffExpiry => true
  | .surveyPeriodExpiry => true
  | .heatingPeriodExpiry => true
  | .passTimeout => true
  | .warnTimerExpiry _ => true
  | .closeTimerExpiry _ => true
  | .recycleTimerExpiry _ => true
  | .chimeTimerExpiry => true
  | .tonePhase => true
  | .supplySample _ => true
  | .stageDue => true
  | .minOffExpiry _ => true
  | .holdoverExpiry => true
  | .rawEdge _ _ => true
  | .stabilityTimerExpiry _ => true
  | .supplyReset => true
  | .supplyAboveUpperThreshold => true

end Sys2Proof
end

