-- ==== Sys2Proof/Certificates/Slice0/Obligations.lean ====
section
/-! DEFINITION. The statements for the provers. -/

open Sys2Proof Sys2Proof.Machine

/-! ### Steps, the clock and reset -/

/-- A step takes the command at the front of the queue and runs it with the queue's rest. -/
def Obligations.StepRunsFrontCommand : Prop :=
  ∀ (c : Instr) (rest : List Instr) (s : State),
    step { s with pending := c :: rest } = exec c { s with pending := rest }

/-- The model's timebase (log 5): on an empty queue the first of the node's own events that is due is queued, and, where
none is due, the clock goes on by 1 ms. -/
def Obligations.EmptyQueueTicks : Prop :=
  ∀ s : State, s.pending = [] →
    (s.due = [] → step s = .next { s with now := s.now + 1 }) ∧
    (∀ c rest, s.due = c :: rest → step s = .next { s with pending := [c] })

/-- The state right after the power-on reset: what the chapters' tables give for any reset, with the factory defaults of
the unprogrammed store image the model chooses (log 2). -/
def Obligations.PowerOnState : Prop :=
  (∀ p, State.reset.port p = ⟨none, .hunt, [], [], none, 1, 0, 0⟩) ∧ (∀ e, State.reset.alive e = false) ∧
  (∀ e, (State.reset.endUnit e).idleTimer = some 100) ∧ State.reset.cab = ⟨none, .disarmed, none⟩ ∧
  State.reset.consist.state = .unplaced ∧ State.reset.consist.position = 0 ∧ State.reset.consist.leadEnd = none ∧
  State.reset.consist.table = emptyTable ∧ State.reset.consist.length = 0 ∧ State.reset.consist.check = 0 ∧
  State.reset.lead.role = false ∧ State.reset.lead.state = .standby ∧ State.reset.lead.reason = .none ∧
  State.reset.seq.budget = 600 ∧ State.reset.seq.demand = 4 ∧ State.reset.seq.period = 30 ∧
  State.reset.dispatch.unmatched = 0 ∧ State.reset.orders = factoryOrders ∧
  (∀ c, State.reset.channel c = ⟨.fault, true, none, 0, .settling⟩) ∧ (∀ o, State.reset.output o = false) ∧
  State.reset.heat.cCmd = 4 ∧ State.reset.heat.target = 0 ∧ State.reset.heat.level = 0 ∧
  State.reset.heat.monitor = .settling ∧ State.reset.heat.restartBlock = true ∧ State.reset.heat.cycleRec = none ∧
  (∀ i, State.reset.settled i = false) ∧
  (∀ ev, State.reset.present ev = (ev == .reset || ev == .storeInvalid)) ∧
  State.reset.mgmt.state = .ready ∧ State.reset.mgmt.store = .invalid ∧ State.reset.mgmt.cause = .supply

/-- The invariants of the node hold at reset. -/
def Obligations.ResetMeetsInvariants : Prop :=
  State.reset.atRest ∧ State.reset.placeInv ∧ State.reset.queueInv ∧ State.reset.doorInv ∧ State.reset.leafInv ∧
  State.reset.leadInv

/-! ### The port units (file 01) -/

/-- A sync character at a port in HUNT that is not sending. With a measured bit time in the window of a rate `r`, decoding
as 0x55 with even parity, and the port UNLOCKED or locked at `r`: the port is locked at `r` and in ASSEMBLING with the sync
character alone in its buffer, and nothing else changes but that the cab port's lock timer starts as it takes a lock. One
that decodes wrong, or whose bit time lies in no window the port may take, is a SYNC_ERROR: the frame is dropped, the port
goes to DISCARDING, and its lock is kept. -/
def Obligations.SyncCharactersAreJudged : Prop :=
  ∀ (p : Port) (bitTime : Nat) (c : Character) (s : State),
    s.supplyLow = false → (s.port p).rx = .hunt → (s.port p).sending = none →
    (∀ r, c.data = 0x55 → charGood c = true → (rateWindow r).1 ≤ bitTime → bitTime ≤ (rateWindow r).2 →
      (s.port p).lock = none ∨ (s.port p).lock = some r →
      ∃ t, exec (.syncCharacter p bitTime c) s = .next t ∧
        t.port p = { s.port p with lock := some r, rx := .assembling, buffer := [0x55] } ∧
        t.cab = (if p = .cab ∧ (s.port p).lock = none then
          { s.cab with lockTimer := some (s.now + s.itemN Item.silence) } else s.cab) ∧
        (∀ q, q ≠ p → t.port q = s.port q) ∧ OnlyPorts { s with cab := t.cab } t) ∧
    ((c.data = 0x55 → charGood c = true → ∀ r, (rateWindow r).1 ≤ bitTime → bitTime ≤ (rateWindow r).2 →
        (s.port p).lock ≠ none ∧ (s.port p).lock ≠ some r) →
      ∃ t, exec (.syncCharacter p bitTime c) s = .next t ∧ exec (.syncError p bitTime c) s = .next t ∧
        Dropped p .discarding s t)

/-- Each failure of a frame in assembly drops it whole and counts it once: a PARITY_ERROR and a LENGTH_ERROR take the port
to DISCARDING, a GAP_ERROR and a CHECK_ERROR to HUNT, and so does any frame whose check differs from the one computed over
it. DISCARDING ends in HUNT after more than 4 character times of mark, and not before. -/
def Obligations.FailedFramesAreDropped : Prop :=
  (∀ (p : Port) (s : State), s.supplyLow = false → (s.port p).rx = .assembling →
    (∀ c, charGood c = false → ∃ t, exec (.parityError p c) s = .next t ∧ Dropped p .discarding s t) ∧
    (∀ k n count, lengthCharsGood k n count = false →
      ∃ t, exec (.lengthError p k n count) s = .next t ∧ Dropped p .discarding s t) ∧
    (∀ markBits, 44 < markBits → ∃ t, exec (.gapError p markBits) s = .next t ∧ Dropped p .hunt s t) ∧
    (∀ k f, lengthGood k f.body = true → (frameOf f k []).checkGood = false →
      ∃ t, exec (.checkError p k f) s = .next t ∧ Dropped p .hunt s t) ∧
    (∀ i f, i.arriving = some (p, f) → s.atRest → lengthGood f.kind f.payload = true → f.check ≠ crc f.checked →
      ∃ t, exec i s = .next t ∧ Dropped p .hunt s t)) ∧
  (∀ (p : Port) (markBits : Nat) (s : State), s.supplyLow = false → (s.port p).rx = .discarding →
    exec (.returnToHunt p markBits) s =
      .next (if markBits > 44 then s.setPort p { s.port p with rx := .hunt } else s))

/-- A break on a port that is not sending: the lock is lost, the port goes to DISCARDING, and a frame in assembly is
dropped and counted. On the cab port the lock timer stops, and an ARMED watch enters TIMING, 150 ms after the start of the
space (whole milliseconds of it, log 13); an end port has no such watch. -/
def Obligations.BreakUnlocks : Prop :=
  ∀ (p : Port) (spaceBits : Nat) (s : State), s.supplyLow = false → (s.port p).sending = none → 22 ≤ spaceBits →
    ∃ t, exec (.lineBreak p spaceBits) s = .next t ∧ (t.port p).lock = none ∧ (t.port p).rx = .discarding ∧
      (t.port p).lineErrors = (if (s.port p).rx = .assembling then min 255 ((s.port p).lineErrors + 1)
        else (s.port p).lineErrors) ∧
      (∀ ev, t.present ev = (s.present ev || (ev == .lineError && (s.port p).rx == .assembling))) ∧
      (t.port p).queue = (s.port p).queue ∧ (∀ q, q ≠ p → t.port q = s.port q) ∧
      (∀ e, p = .line e → t.cab = s.cab) ∧
      (p = .cab → t.cab.lockTimer = none ∧
        (s.cab.watch = .armed → t.cab.watch = .timing ∧
          ∃ d, t.cab.holdTimer = some d ∧ s.now + 149 ≤ d ∧ d ≤ s.now + 150) ∧
        (s.cab.watch ≠ .armed → t.cab.watch = s.cab.watch ∧ t.cab.holdTimer = s.cab.holdTimer)) ∧
      { t with pu1 := s.pu1, pu2 := s.pu2, puC := s.puC, events := s.events, cab := s.cab } = s

/-- The cab line seen at mark leaves the watch ARMED with its time stopped; the line-hold time running out on a TIMING
watch performs a LINE_HOLD reset, which leaves the watch DISARMED. -/
def Obligations.LineHoldWatchResets : Prop :=
  (∀ s : State, s.supplyLow = false →
    exec .lineHoldWatchArmed s = .next { s with cab := { s.cab with watch := .armed, holdTimer := none } }) ∧
  (∀ (s : State) (d : Nat), s.supplyLow = false → s.cab.watch = .timing → s.cab.holdTimer = some d →
    ∃ t, exec .lineHoldReset s = .next t ∧ t.now = max s.now d ∧ t.supplyLow = false ∧ AfterReset .lineHold s t ∧
      TimersFromEnd t)

/-- The cab port's lock timer and an end port's silence timer expire: the port becomes UNLOCKED, and a frame in assembly is
dropped, counted with LINE_ERROR raised, its buffer emptied, and the port returned to HUNT. The end port is no longer alive,
and a node in PLACED enters STALE and raises STALE while any other keeps its state. -/
def Obligations.SilentPortsLoseTheirLock : Prop :=
  (∀ (s : State) (d : Nat), s.supplyLow = false → s.cab.lockTimer = some d →
    ∃ t, exec .lockTimerExpiry s = .next t ∧ t.cab = { s.cab with lockTimer := none } ∧ t.puC = s.puC.unlocked ∧
      (∀ ev, t.present ev = (s.present ev || (ev == .lineError && s.puC.rx == .assembling))) ∧
      { t with puC := s.puC, cab := s.cab, events := s.events, now := s.now } = s) ∧
  (∀ (e : End) (s : State) (d : Nat), s.supplyLow = false → (s.endUnit e).silence = some d →
    ∃ t, exec (.silenceTimerExpiry e) s = .next t ∧ t.alive e = false ∧ t.alive e.other = s.alive e.other ∧
      t.port (.line e) = (s.port (.line e)).unlocked ∧ (∀ q, q ≠ .line e → t.port q = s.port q) ∧
      t.present .lineError = (s.present .lineError || (s.port (.line e)).rx == .assembling) ∧
      t.consist.state = (if s.consist.state = .placed then .stale else s.consist.state) ∧
      (s.consist.state = .placed → t.present .stale = true) ∧
      { t.consist with state := s.consist.state, comp1 := s.consist.comp1, comp2 := s.consist.comp2 } = s.consist ∧
      { t with now := s.now, end1 := s.end1, end2 := s.end2, pu1 := s.pu1, pu2 := s.pu2, events := s.events,
               consist := s.consist } = s)

/-- The comparison of an end, once it may be made, follows its coupling sense and its presence; SEGMENT_FAULT or
SENSE_MISMATCH is raised where the comparison becomes it. -/
def Obligations.HoldOffMakesComparisons : Prop :=
  ∀ (s : State) (d : Nat), s.supplyLow = false → s.consist.holdOff = some d →
    ∃ t, exec .holdOffExpiry s = .next t ∧ t.consist.holdOff = none ∧
      (∀ e, t.comparison e = (if s.settled (.cpl e) = true then
          (if s.active (.cpl e) = s.alive e then .agree
           else if s.active (.cpl e) = true then .segmentFault else .senseMismatch)
        else s.comparison e)) ∧
      (∀ e, t.comparison e = .segmentFault → s.comparison e ≠ .segmentFault → t.present .segmentFault = true) ∧
      (∀ e, t.comparison e = .senseMismatch → s.comparison e ≠ .senseMismatch → t.present .senseMismatch = true) ∧
      { t with now := s.now, events := s.events, consist := s.consist } = s ∧
      { t.consist with holdOff := s.consist.holdOff, comp1 := s.consist.comp1, comp2 := s.consist.comp2 } = s.consist

/-- The idle timer of an end expires and an IDLE is due; with the queue empty and the line quiet it is sent, at the locked
rate or else at 38 400 bit/s, LEADWARD only on the leadward end, with hop 0, destination 0 and the node's position as
source. -/
def Obligations.IdleFrameIsSent : Prop :=
  (∀ (e : End) (s : State) (d : Nat), s.supplyLow = false → (s.endUnit e).idleTimer = some d →
    exec (.idleTimerExpiry e) s =
      .next ({ s with now := max s.now d }.setEnd e { s.endUnit e with idleTimer := none })) ∧
  (∀ (e : End) (s : State) (markBits : Nat), s.supplyLow = false → (s.port (.line e)).rx = .hunt →
    (s.port (.line e)).sending = none → (s.port (.line e)).queue = [] → (s.endUnit e).idleTimer = none →
    (s.port (.line e)).attempt = 1 → 11 ≤ markBits → s.consist.position ≤ 32 →
    ∃ t x f, exec (.transmitStart (.line e) markBits) s = .next t ∧
      t = s.setPort (.line e) { s.port (.line e) with sending := some x } ∧ x.idleFrame = some f ∧
      x.rate = (s.port (.line e)).lock.getD .bps38400 ∧ f.kind = .idle ∧
      f.leadward = decide (s.consist.leadEnd = some e) ∧ f.reflected = false ∧ f.hop = 0 ∧ f.dest = 0 ∧
      f.src.toNat = s.consist.position ∧ f.payload = [] ∧ f.checkGood = true)

/-- The frame at the head of the queue is sent once the line has been quiet for 1 character time on its first attempt, and for
5 + (identity + attempt) modulo 8 on its second and third, at the locked rate or else at its source rate, and stays in its
slot meanwhile. That the attempt is reckoned after the collision has counted it up is the model's reading (log 17), and so
is the 1 character time after a collision that leaves no frame to retry (log 33). Sent to its last character the frame
leaves the queue, the rest keeping its order; the transmit attempt returns to 1, and an end port's idle timer restarts. That
nothing joins the queue in this event also where a lead's roster send list waits is the model's reading of R53: the list
goes on by its own command (log 16). An IDLE sent leaves the queue alone. -/
def Obligations.QueuedFramesAreSentInOrder : Prop :=
  (∀ (p : Port) (s : State) (q : Queued) (qs : List Queued) (markBits : Nat), s.supplyLow = false →
      (s.port p).rx = .hunt → (s.port p).sending = none → (s.port p).queue = q :: qs →
      exec (.transmitStart p markBits) s =
        .next (if (if (s.port p).attempt = 1 then 11
                   else 11 * (5 + (s.identity.toNat + (s.port p).attempt) % 8)) ≤ markBits then
          s.setPort p { s.port p with sending := some ⟨(s.port p).lock.getD q.rate, none⟩ } else s)) ∧
  (∀ (e : End) (s : State) (q : Queued) (qs : List Queued) (r : LineRate), s.supplyLow = false →
    (s.port (.line e)).queue = q :: qs → (s.port (.line e)).sending = some ⟨r, none⟩ → q.resetReply = false →
    exec (.transmitComplete (.line e)) s =
      .next ((s.setPort (.line e) { s.port (.line e) with queue := qs, attempt := 1, sending := none }).setEnd e
        { s.endUnit e with idleTimer := some (s.now + 100) })) ∧
  (∀ (s : State) (q : Queued) (qs : List Queued) (r : LineRate), s.supplyLow = false →
    s.puC.queue = q :: qs → s.puC.sending = some ⟨r, none⟩ → q.resetReply = false →
    exec (.transmitComplete .cab) s =
      .next { s with puC := { s.puC with queue := qs, attempt := 1, sending := none } }) ∧
  (∀ (e : End) (s : State) (r : LineRate) (f : Frame), s.supplyLow = false →
    (s.port (.line e)).sending = some ⟨r, some f⟩ →
    exec (.transmitComplete (.line e)) s =
      .next ((s.setPort (.line e) { s.port (.line e) with sending := none }).setEnd e
        { s.endUnit e with idleTimer := some (s.now + 100) }))

/-- A collision on the first or second attempt keeps the frame at the head of the queue and counts the attempt; on the
third the frame is discarded, a line error counted, LINE_ERROR raised and the attempt 1 again. That nothing joins the queue
in this event also where a lead's roster send list waits is the model's reading of R53: the list goes on by its own command
(log 16). An IDLE that collides is not retried. -/
def Obligations.CollisionsAreRetriedTwice : Prop :=
  ∀ (p : Port) (s : State) (r : LineRate), s.supplyLow = false →
    (∀ q qs, (s.port p).queue = q :: qs → (s.port p).sending = some ⟨r, none⟩ → (s.port p).attempt < 3 →
      exec (.collision p) s =
        .next (s.setPort p { s.port p with sending := none, attempt := (s.port p).attempt + 1 })) ∧
    (∀ q qs, (s.port p).queue = q :: qs → (s.port p).sending = some ⟨r, none⟩ → 3 ≤ (s.port p).attempt →
      q.resetReply = false → ∃ t, exec (.collision p) s = .next t ∧
        t.port p = { s.port p with queue := qs, sending := none, attempt := 1,
                                   lineErrors := min 255 ((s.port p).lineErrors + 1) } ∧
        t.present .lineError = true ∧ (∀ e, p = .line e → (t.endUnit e).idleTimer = some (s.now + 100)) ∧
        (∀ x, x ≠ p → t.port x = s.port x)) ∧
    (∀ f, (s.port p).sending = some ⟨r, some f⟩ → ∃ t, exec (.collision p) s = .next t ∧
        t.port p = { s.port p with sending := none, lineErrors := min 255 ((s.port p).lineErrors + 1) } ∧
        t.present .lineError = true ∧ (∀ e, p = .line e → (t.endUnit e).idleTimer = some (s.now + 100)) ∧
        (∀ x, x ≠ p → t.port x = s.port x))

/-- An IDLE frame that passes its checks on an end port makes the port alive for the segment silence time and goes no
further; where the port was not alive, a node in PLACED enters STALE. -/
def Obligations.IdleKeepsSegmentAlive : Prop :=
  ∀ (e : End) (f : LineFrame) (s : State), Heard (.line e) (frameOf f .idle []) s →
    ∃ t, exec (.idle (.line e) f) s = .next t ∧
      (t.endUnit e).silence = some (s.now + s.itemN Item.silence) ∧
      t.port (.line e) = { s.port (.line e) with rx := .hunt, buffer := [] } ∧
      (∀ q, q ≠ .line e → t.port q = s.port q) ∧
      t.consist.state = (if s.alive e = false ∧ s.consist.state = .placed then .stale else s.consist.state) ∧
      { t with pu1 := s.pu1, pu2 := s.pu2, end1 := s.end1, end2 := s.end2, events := s.events,
               consist := { t.consist with state := s.consist.state, comp1 := s.consist.comp1,
                                           comp2 := s.consist.comp2 } } = s

/-! ### The relay engine (file 02) -/

/-- A node without a position passes every end-port frame, other than an IDLE, a CALL or a HEAT SET, out of its other end
unchanged, with the check received and at the rate received; no unit acts on it. -/
def Obligations.UnplacedNodePassesFrames : Prop :=
  ∀ (i : Instr) (e : End) (f : Frame) (s : State), i.arriving = some (.line e, f) → Heard (.line e) f s →
    s.holdsPosition = false → f.kind ≠ .idle → f.kind ≠ .call → f.kind ≠ .heatSet →
    ∃ t, exec i s = .next t ∧ OnlyPorts { heard (.line e) s with events := t.events } t ∧
      (∀ q, q ≠ .line e.other → t.port q = (heard (.line e) s).port q) ∧
      (s.roomFor (.line e.other) 1 →
        Queues (.line e.other) [⟨f, s.rateAt (.line e), false⟩] (heard (.line e) s) t ∧
        t.events = (heard (.line e) s).events) ∧
      (¬ s.roomFor (.line e.other) 1 →
        (t.port (.line e.other)).queue = (s.port (.line e.other)).queue ∧
        (t.port (.line e.other)).overflows = min 255 ((s.port (.line e.other)).overflows + 1) ∧
        t.present .queueOverflow = true)

/-- A frame that a node with a position drops is counted as a direction error and changes nothing more: one whose flags or
destination its kind does not allow, LEAD STATUS always; a leadward frame on the leadward end; an outward frame other than
a CALL on the outward end, or on either end of a node with the lead role. -/
def Obligations.WrongWayFramesAreDropped : Prop :=
  ∀ (i : Instr) (e : End) (f : Frame) (s : State), i.arriving = some (.line e, f) → Heard (.line e) f s →
    s.holdsPosition = true → f.kind ≠ .idle →
    (acceptedOnEnd f = false ∨ f.kind = .leadStatus ∨
      (acceptedOnEnd f = true ∧ f.leadward = true ∧ s.consist.leadEnd = some e) ∨
      (acceptedOnEnd f = true ∧ f.leadward = false ∧ f.kind ≠ .call ∧
        (s.consist.leadEnd ≠ some e ∨ s.lead.role = true))) →
    exec i s = .next { heard (.line e) s with directionErrors := min 255 (s.directionErrors + 1) }

/-- A cab-port frame that is not the node's to take is dropped and counted as a cab refusal: on a lead every kind but ORDER
and REQUEST, and on any other node every frame but a REQUEST with destination 0. Of a lead's REQUESTs, one to 2..32 goes
outward at the cab's rate, with hop 1 and source 1, where the lead holds a position and has an outward neighbour; one that
is neither this nor the lead's own to answer is dropped and counted in the same way. -/
def Obligations.CabRefusalsAreCounted : Prop :=
  (∀ (i : Instr) (f : Frame) (s : State), i.arriving = some (.cab, f) → Heard .cab f s → f.kind ≠ .idle →
    (s.lead.role = true → f.kind ≠ .order ∧ f.kind ≠ .request) →
    (s.lead.role = false → ¬ (f.kind = .request ∧ f.dest = 0)) →
    exec i s = .next { heard .cab s with cabRefusals := min 255 (s.cabRefusals + 1) }) ∧
  (∀ (i : Instr) (f : Frame) (s : State), i.arriving = some (.cab, f) → Heard .cab f s → f.kind = .request →
    s.lead.role = true → f.dest ≠ 0 → ¬ (f.dest = 1 ∧ s.consist.position = 1) →
    (f.dest = 1 ∨ 32 < f.dest.toNat ∨ s.holdsPosition = false ∨ s.endNode = true) →
    exec i s = .next { heard .cab s with cabRefusals := min 255 (s.cabRefusals + 1) }) ∧
  (∀ (i : Instr) (f : Frame) (s : State) (e : End), i.arriving = some (.cab, f) → Heard .cab f s → f.kind = .request →
    s.lead.role = true → 2 ≤ f.dest.toNat → f.dest.toNat ≤ 32 → s.holdsPosition = true →
    s.consist.leadEnd = some e.other → s.alive e = true → s.roomFor (.line e) 1 →
    ∃ t g, exec i s = .next t ∧ Queues (.line e) [⟨g, s.rateAt .cab, false⟩] (heard .cab s) t ∧ g.kind = .request ∧
      g.leadward = false ∧ g.reflected = false ∧ g.hop = 1 ∧ g.src = 1 ∧ g.dest = f.dest ∧ g.payload = f.payload ∧
      g.checkGood = true ∧ (∀ q, q ≠ .line e → t.port q = (heard .cab s).port q) ∧ OnlyPorts (heard .cab s) t)

/-- An outward REQUEST at a node with a position: forwarded with the node's position as hop where it is for a node further
out and the node is not the end node; dropped as a direction error where it is for a nearer node, or for a further one at
the end node. One for the node's own position is answered on the leadward end with the node's position as source: READ
ITEMS and READ EVENTS with what they read, a lead-control request with NOT_LEAD and no effect. Its source position restarts
the lead-loss timer as any outward frame's does. -/
def Obligations.RequestsAreRouted : Prop :=
  ∀ (i : Instr) (e : End) (f : Frame) (s : State), i.arriving = some (.line e, f) → Heard (.line e) f s →
    f.kind = .request → s.holdsPosition = true → s.consist.position ≤ 32 → s.consist.leadEnd = some e →
    s.lead.role = false → acceptedOnEnd f = true →
    (s.consist.position < f.dest.toNat → s.alive e.other = true → s.roomFor (.line e.other) 1 →
      ∃ t g, exec i s = .next t ∧
        Queues (.line e.other) [⟨g, s.rateAt (.line e), false⟩] (handSource f.src (heard (.line e) s)) t ∧
        g.hop = s.consist.position ∧ g.leadward = false ∧ g.reflected = false ∧ g.dest = f.dest ∧ g.src = f.src ∧
        g.kind = .request ∧ g.payload = f.payload ∧ g.check = crc g.checked ∧
        OnlyPorts (handSource f.src (heard (.line e) s)) t) ∧
    (f.dest.toNat < s.consist.position ∨ (s.consist.position < f.dest.toNat ∧ s.alive e.other = false) →
      exec i s = .next { handSource f.src (heard (.line e) s) with
        directionErrors := min 255 (s.directionErrors + 1) }) ∧
    (f.dest.toNat = s.consist.position → s.mgmt.state ≠ .resetPending → s.roomFor (.line e) 1 →
      (∀ a n, f.payload = [1, a, n] → 1 ≤ n.toNat → n.toNat ≤ 16 → a.toNat + n.toNat ≤ 89 →
        ∃ t, exec i s = .next t ∧ OnlyPorts (handSource f.src (heard (.line e) s)) t ∧
          LineReply e 1 .done
            ([a, n] ++ bytesOf ((handSource f.src (heard (.line e) s)).itemValues a.toNat n.toNat))
            (handSource f.src (heard (.line e) s)) t) ∧
      (f.payload = [6] →
        ∃ t, exec i s = .next t ∧ OnlyPorts { handSource f.src (heard (.line e) s) with events := 0 } t ∧
          LineReply e 6 .done (eventBytes (heard (.line e) s).events) (handSource f.src (heard (.line e) s)) t) ∧
      (f.payload = [9] ∨ f.payload = [10] ∨ (byteAt f.payload 0 = 11 ∧ f.payload.length = 6) →
        ∃ t, exec i s = .next t ∧ OnlyPorts (handSource f.src (heard (.line e) s)) t ∧
          LineReply e (byteAt f.payload 0) .notLead [] (handSource f.src (heard (.line e) s)) t))

/-- A node beyond position 1 relays each leadward frame from its outward end out of its leadward end, unchanged and with
the check received: ANSWER, TAIL, REPLY and the reflected sweeps. The lead delivers a REPLY to its cab port in the same
way, in every state of its lead machine. -/
def Obligations.LeadwardFramesReachTheCab : Prop :=
  (∀ (i : Instr) (e : End) (f : Frame) (s : State), i.arriving = some (.line e, f) → Heard (.line e) f s →
      s.holdsPosition = true → 1 < s.consist.position → s.consist.leadEnd = some e.other → acceptedOnEnd f = true →
      f.leadward = true → s.roomFor (.line e.other) 1 →
      ∃ t, exec i s = .next t ∧
        Queues (.line e.other) [⟨f, s.rateAt (.line e), false⟩] (heard (.line e) s) t ∧
        OnlyPorts (heard (.line e) s) t ∧ (∀ q, q ≠ .line e.other → t.port q = (heard (.line e) s).port q)) ∧
  (∀ (e : End) (f : LineFrame) (s : State), Heard (.line e) (frameOf f .reply []) s → s.holdsPosition = true →
      s.consist.position = 1 → s.lead.role = true → s.consist.leadEnd = some e.other →
      acceptedOnEnd (frameOf f .reply []) = true → s.roomFor .cab 1 →
      ∃ t, exec (.reply (.line e) f) s = .next t ∧
        Queues .cab [⟨frameOf f .reply [], s.rateAt (.line e), false⟩] (heard (.line e) s) t ∧
        OnlyPorts (heard (.line e) s) t ∧ (∀ q, q ≠ .cab → t.port q = (heard (.line e) s).port q))

/-! ### Roll call (file 03) -/

/-- A CALL with hop h of 1..31 places a node without the lead role at h + 1 with the arrival end leadward: PLACING, its own
record alone in its table, N and check 0, its PLACING timer running for three call windows, its cycle record cleared. An
ANSWER with that record goes back, and the CALL goes on with hop h + 1, or a TAIL follows the ANSWER. A CALL with hop 0 is
disregarded, and restarts no lead-loss timer though it come from position 1 (log 39). One with hop 32 or more leaves the node UNPLACED and is answered with a TAIL with the overflow flag alone. -/
def Obligations.CallPlacesNode : Prop :=
  (∀ (e : End) (f : LineFrame) (s : State) (h : Nat), Heard (.line e) (frameOf f .call []) s →
     acceptedOnEnd (frameOf f .call []) = true → s.lead.role = false → (frameOf f .call []).hop = h → 1 ≤ h → h ≤ 31 →
     s.roomFor (.line e) 2 → s.roomFor (.line e.other) 1 →
     ∃ t g own, exec (.call (.line e) f) s = .next t ∧
       t.consist.state = .placing ∧ t.consist.position = h + 1 ∧ t.consist.leadEnd = some e ∧
       (∀ p, 1 ≤ p → p ≤ 32 → recordAt t.consist.table p = (if p = h + 1 then some own else none)) ∧
       own.identity = s.identity ∧ own.position.toNat = h + 1 ∧ own.e2Leadward = decide (e = .e2) ∧
       t.consist.length = 0 ∧ t.consist.check = 0 ∧ t.consist.leadLoss = none ∧
       t.consist.placing = some (s.now + 3 * s.itemN Item.callWindow) ∧
       t.heat.cycleRec = none ∧ t.heat.grant = 0 ∧
       g.kind = .answer ∧ g.payload = own.bytes ∧ g.leadward = true ∧ g.dest = 1 ∧ g.src.toNat = h + 1 ∧
       g.checkGood = true ∧
       (s.alive e.other = true → Queues (.line e) [queued g] (heard (.line e) s) t ∧
         ∃ c, Queues (.line e.other) [⟨c, s.rateAt (.line e), false⟩] (heard (.line e) s) t ∧ c.kind = .call ∧
           c.hop = h + 1 ∧ c.payload = f.body ∧ c.checkGood = true) ∧
       (s.alive e.other = false → t.port (.line e.other) = s.port (.line e.other) ∧
         ∃ d, Queues (.line e) [queued g, queued d] (heard (.line e) s) t ∧ d.kind = .tail ∧
           d.payload = [byteOf (h + 1), 0, 0, 0, 0, 0] ∧ d.checkGood = true) ∧
       { t with pu1 := s.pu1, pu2 := s.pu2, end1 := s.end1, end2 := s.end2, events := s.events,
                consist := s.consist, heat := { t.heat with cycleRec := s.heat.cycleRec, grant := s.heat.grant } } = s) ∧
  (∀ (e : End) (f : LineFrame) (s : State), Heard (.line e) (frameOf f .call []) s →
    acceptedOnEnd (frameOf f .call []) = true → s.lead.role = false → (frameOf f .call []).hop = 0 →
    exec (.call (.line e) f) s = .next (heard (.line e) s)) ∧
  (∀ (e : End) (f : LineFrame) (s : State), Heard (.line e) (frameOf f .call []) s →
    acceptedOnEnd (frameOf f .call []) = true → s.lead.role = false → 32 ≤ (frameOf f .call []).hop →
    s.roomFor (.line e) 1 →
    ∃ t g, exec (.call (.line e) f) s = .next t ∧
      (s.consist.state = .unplaced → t.consist = (heard (.line e) s).consist ∧ t.events = (heard (.line e) s).events) ∧
      (s.consist.state ≠ .unplaced → t.consist.state = .unplaced ∧ t.consist.position = 0 ∧ t.consist.leadEnd = none ∧
        t.consist.table = emptyTable ∧ t.consist.length = 0 ∧ t.consist.check = 0 ∧ t.consist.placing = none ∧
        t.present .unplaced = true) ∧
      Queues (.line e) [queued g] (heard (.line e) s) t ∧ (∀ q, q ≠ .line e → t.port q = s.port q) ∧ g.kind = .tail ∧
      g.payload = [32, 1, 0, 0, 0, 0] ∧ g.leadward = true ∧ g.hop = 0 ∧ g.dest = 1 ∧
      g.src = byteOf t.consist.position ∧ g.checkGood = true ∧ t.doors = s.doors ∧ t.items = s.items ∧
      t.heat.target = s.heat.target)

/-- A CALL reaching a node that holds the lead role, wherever it stands: FAILED with CONFLICT, the node in CONFLICT with no
position and no table, everything it ran as lead stopped, CONFLICT present where it was not yet in that state, and a TAIL
with the conflict flag and its own identity on the arrival end. -/
def Obligations.CallAtLeadIsConflict : Prop :=
  ∀ (e : End) (f : LineFrame) (s : State), Heard (.line e) (frameOf f .call []) s →
    acceptedOnEnd (frameOf f .call []) = true → s.lead.role = true → s.roomFor (.line e) 1 →
    ∃ t g, exec (.call (.line e) f) s = .next t ∧ t.lead.role = true ∧ t.lead.state = .failed ∧
      t.lead.reason = .conflict ∧ t.lead.window = none ∧ t.lead.sendList = [] ∧ t.consist.state = .conflict ∧
      t.consist.position = 0 ∧ t.consist.leadEnd = none ∧ t.consist.table = emptyTable ∧ t.consist.length = 0 ∧
      t.consist.check = 0 ∧ t.consist.placing = none ∧ t.survey.period = none ∧ t.survey.outstanding = none ∧
      t.seq.cycle = none ∧ t.seq.periodTimer = none ∧ t.seq.passTimer = none ∧
      (s.consist.state ≠ .conflict → t.present .conflict = true) ∧
      Queues (.line e) [queued g] (heard (.line e) s) t ∧ g.kind = .tail ∧ g.src = 0 ∧ g.dest = 1 ∧
      g.leadward = true ∧ g.checkGood = true ∧
      g.payload = [byteOf (min ((frameOf f .call []).hop + 1) 32), 2] ++ CoachRecord.identityBytes s.identity ∧
      t.port (.line e.other) = s.port (.line e.other) ∧ t.doors = s.doors ∧ t.inputs = s.inputs ∧
      t.heat = { s.heat with cycleRec := none, grant := 0 } ∧ t.items = s.items

/-- An ANSWER at a lead in CALLING: its record, where its position lies in 2..32 and its identity is not the lead's own, is
stored at that position, and any other record with that identity is removed; any other record leaves the table. The record
is stored as received but for its unused bit, which is dropped: the model's reading of R49 with R17 (log 22). Nothing else
changes, and outside CALLING nothing at all. -/
def Obligations.AnswersAreStored : Prop :=
  ∀ (e : End) (f : LineFrame) (s : State), Heard (.line e) (frameOf f .answer []) s → s.holdsPosition = true →
    s.consist.position = 1 → s.lead.role = true → s.consist.leadEnd = some e.other →
    acceptedOnEnd (frameOf f .answer []) = true →
    ∃ t, exec (.answer (.line e) f) s = .next t ∧
      { t with consist := { t.consist with table := s.consist.table } } = heard (.line e) s ∧
      (let r := CoachRecord.ofBytes f.body
       if s.lead.state = .calling ∧ 2 ≤ r.position.toNat ∧ r.position.toNat ≤ 32 ∧ r.identity ≠ s.identity then
         ∀ p, 1 ≤ p → p ≤ 32 → recordAt t.consist.table p =
           (if p = r.position.toNat then some r
            else (recordAt s.consist.table p).filter (fun x => x.identity != r.identity))
       else t.consist.table = s.consist.table)

/-- A TAIL with the conflict flag at a lead in CALLING: FAILED with CONFLICT, the conflict identity it carries kept, the
node UNPLACED with UNPLACED raised, and one LEAD STATUS offered to the cab port that shows it. One with the overflow flag
alone: FAILED with TOO_LONG at once, whatever the attempt, the node left PLACING with its table as it stands. -/
def Obligations.ConflictTailFailsRollCall : Prop :=
  (∀ (e : End) (f : LineFrame) (s : State), Heard (.line e) (frameOf f .tail []) s → s.consist.state = .placing →
    s.consist.position = 1 → s.lead.role = true → s.lead.state = .calling → s.consist.leadEnd = some e.other →
    acceptedOnEnd (frameOf f .tail []) = true → (byteAt f.body 1).getLsbD 1 = true → s.roomFor .cab 1 →
    ∃ t g, exec (.tail (.line e) f) s = .next t ∧ t.lead.state = .failed ∧ t.lead.reason = .conflict ∧
      t.lead.role = true ∧ t.lead.window = none ∧ t.lead.conflictId = CoachRecord.identityAt f.body 2 ∧
      t.consist.state = .unplaced ∧ t.consist.position = 0 ∧ t.consist.leadEnd = none ∧
      t.consist.table = emptyTable ∧ t.present .unplaced = true ∧
      Queues .cab [queued g] s t ∧ g.kind = .leadStatus ∧ g.src = 0 ∧ g.dest = 0 ∧ g.checkGood = true ∧
      g.payload.take 4 = [5, 3, 0, 0] ∧ t.port (.line e.other) = s.port (.line e.other) ∧
      (t.port (.line e)).queue = (s.port (.line e)).queue ∧ t.doors = s.doors ∧ t.items = s.items ∧
      t.heat = { s.heat with cycleRec := none, grant := 0 }) ∧
  (∀ (e : End) (f : LineFrame) (s : State), LeadHears e .tail f s → s.lead.state = .calling →
    (byteAt f.body 1).getLsbD 1 = false → (byteAt f.body 1).getLsbD 0 = true → s.roomFor .cab 1 →
    ∃ t, exec (.tail (.line e) f) s = .next t ∧ FailsPlacing .tooLong s.now (heard (.line e) s) t)

/-- A call attempt fails as the call window expires in CALLING, or by a TAIL with both flags clear whose last position lies
outside 2..32 or leaves a gap. On the first or second attempt the attempt is counted, the table keeps the lead's own record
alone, the window runs again, and a CALL with the new attempt number goes outward where a neighbour is present. The third
fails the roll call with NO_TAIL or GAPS, the node left PLACING. -/
def Obligations.FailedAttemptCallsAgain : Prop :=
  (∀ (s : State) (d : Nat) (e : End), s.supplyLow = false → s.atRest → s.lead.window = some d →
    s.lead.state = .calling → s.consist.leadEnd = some e.other →
    (s.lead.attempt < 3 → s.alive e = true → s.roomFor (.line e) 1 →
      ∃ t, exec .callWindowExpiry s = .next t ∧ CallsAgain e (max s.now d) s t) ∧
    (3 ≤ s.lead.attempt → s.consist.state = .placing → s.roomFor .cab 1 →
      ∃ t, exec .callWindowExpiry s = .next t ∧ FailsPlacing .noTail (max s.now d) s t)) ∧
  (∀ (e : End) (f : LineFrame) (s : State), LeadHears e .tail f s → s.alive e = true → s.lead.state = .calling →
    (byteAt f.body 1).getLsbD 1 = false → (byteAt f.body 1).getLsbD 0 = false →
    ((byteAt f.body 0).toNat < 2 ∨ 32 < (byteAt f.body 0).toNat ∨
      ∃ p, 1 ≤ p ∧ p ≤ (byteAt f.body 0).toNat ∧ recordAt s.consist.table p = none) →
    (s.lead.attempt < 3 → s.roomFor (.line e) 1 →
      ∃ t, exec (.tail (.line e) f) s = .next t ∧ CallsAgain e s.now (heard (.line e) s) t) ∧
    (3 ≤ s.lead.attempt → s.roomFor .cab 1 →
      ∃ t, exec (.tail (.line e) f) s = .next t ∧ FailsPlacing .gaps s.now (heard (.line e) s) t))

/-- A ROSTER at a node in PLACING, entry k counted from 0 being for the first position plus k: each entry for a position up
to 32 that is not the node's own, and whose identity is not its own, is stored with its fields as received (unused bits
dropped: log 22). It replaces what its position held, and every other record with its identity goes, an earlier entry's
too; every other place keeps what it had. Nothing else of the node changes, the PLACING timer included. A node in PLACED or
STALE stores nothing. The frame goes on with the node's position as hop; at the end node it is consumed. -/
def Obligations.RosterEntriesAreStored : Prop :=
  (∀ (e : End) (f : LineFrame) (s : State), Heard (.line e) (frameOf f .roster []) s → s.alive e = true →
    s.consist.state = .placing → s.consist.position ≤ 32 → s.consist.leadEnd = some e → s.lead.role = false →
    acceptedOnEnd (frameOf f .roster []) = true → s.roomFor (.line e.other) 1 → 1 ≤ (byteAt f.body 0).toNat →
    ∃ t, exec (.roster (.line e) f) s = .next t ∧
      (∀ i, i < 4 → rosterStores f.body s i = true → recordAt t.consist.table ((byteAt f.body 0).toNat + i) =
        (if (List.range 4).any (fun j => decide (i < j) && rosterStores f.body s j &&
            (rosterRecord f.body j).identity == (rosterRecord f.body i).identity) = true then none
         else some (rosterRecord f.body i))) ∧
      (∀ p, 1 ≤ p → p ≤ 32 → (∀ i, i < 4 → rosterStores f.body s i = true → p ≠ (byteAt f.body 0).toNat + i) →
        recordAt t.consist.table p = (recordAt s.consist.table p).filter (fun x =>
          (List.range 4).all (fun i => !rosterStores f.body s i || (rosterRecord f.body i).identity != x.identity))) ∧
      (s.alive e.other = true → ∃ g, Queues (.line e.other) [⟨g, s.rateAt (.line e), false⟩] (heard (.line e) s) t ∧
        g.kind = .roster ∧ g.hop = s.consist.position ∧ g.payload = f.body ∧ g.checkGood = true) ∧
      (s.alive e.other = false → t.port (.line e.other) = s.port (.line e.other)) ∧
      { t with pu1 := s.pu1, pu2 := s.pu2, end1 := s.end1, end2 := s.end2,
               consist := { t.consist with table := s.consist.table } } = s) ∧
  (∀ (e : End) (f : LineFrame) (s : State), Heard (.line e) (frameOf f .roster []) s → s.alive e = true →
    s.placedOrStale = true → s.consist.position ≤ 32 → s.consist.leadEnd = some e → s.lead.role = false →
    acceptedOnEnd (frameOf f .roster []) = true → s.roomFor (.line e.other) 1 →
    ∃ t, exec (.roster (.line e) f) s = .next t ∧
      t.consist = { s.consist with
        leadLoss := if f.src = 1 then some (s.now + s.itemN Item.leadLoss) else s.consist.leadLoss } ∧
      (s.alive e.other = true → ∃ g, Queues (.line e.other) [⟨g, s.rateAt (.line e), false⟩] (heard (.line e) s) t ∧
        g.kind = .roster ∧ g.hop = s.consist.position ∧ g.payload = f.body ∧ g.checkGood = true) ∧
      (s.alive e.other = false → t.port (.line e.other) = s.port (.line e.other)) ∧
      { t with pu1 := s.pu1, pu2 := s.pu2, end1 := s.end1, end2 := s.end2, consist := s.consist } = s)

/-- A TAIL with both flags clear whose last position L lies in 2..32, every place 1..L holding a record, begins confirm round
1 over L coaches: with slots enough the whole round goes into the outward queue, a ROSTER for every four positions and the
CONFIRM. The roster send list gives its ROSTER frames to the outward queue from its head on, as many as there are free
slots, and keeps the others in order; with more frames than slots the lead stays in ROSTERING. With the last one offered the
lead enters CONFIRMING, and the CONFIRM follows in the next free slot. -/
def Obligations.SendListFillsFreeSlots : Prop :=
  (∀ (s : State) (e : End) (now later : List Frame), s.supplyLow = false → s.atRest → s.lead.state = .rostering →
    s.holdsPosition = true → s.consist.leadEnd = some e.other → s.alive e = true →
    s.lead.sendList = now ++ later → later ≠ [] → (∀ f ∈ now ++ later, f.kind = .roster) →
    (s.port (.line e)).queue.length + now.length = 4 →
    ∃ t, exec .rosterSendList s = .next t ∧ Queues (.line e) (now.map queued) s t ∧
      t.lead = { s.lead with sendList := later } ∧ (∀ q, q ≠ .line e → t.port q = s.port q) ∧
      { t with pu1 := s.pu1, pu2 := s.pu2, lead := s.lead } = s) ∧
  (∀ (s : State) (e : End) (fs : List Frame), s.supplyLow = false → s.atRest → s.lead.state = .rostering →
    s.holdsPosition = true → s.consist.leadEnd = some e.other → s.alive e = true → s.roomFor .cab 1 →
    s.lead.sendList = fs → fs ≠ [] → (∀ f ∈ fs, f.kind = .roster) → (s.port (.line e)).queue.length + fs.length ≤ 4 →
    ∃ t, exec .rosterSendList s = .next t ∧ StatusSent t s t ∧ t.port (.line e.other) = s.port (.line e.other) ∧
      (if (s.port (.line e)).queue.length + fs.length < 4 then
        t.lead = { s.lead with state := .confirming, sendList := [] } ∧
        Queues (.line e) (fs.map queued ++ [queued (leadConfirm s.consist.length s.consist.check)]) s t
       else t.lead = { s.lead with
          state := .confirming, sendList := [leadConfirm s.consist.length s.consist.check] } ∧
        Queues (.line e) (fs.map queued) s t) ∧
      { t with pu1 := s.pu1, pu2 := s.pu2, puC := s.puC, lead := s.lead } = s) ∧
  (∀ (e : End) (f : LineFrame) (s : State) (n : Nat), LeadHears e .tail f s → s.alive e = true →
    s.lead.state = .calling → (byteAt f.body 1).getLsbD 1 = false → (byteAt f.body 1).getLsbD 0 = false →
    (byteAt f.body 0).toNat = n → 2 ≤ n → n ≤ 32 → (∀ p, 1 ≤ p → p ≤ n → recordAt s.consist.table p ≠ none) →
    (s.port (.line e)).queue.length + (n + 3) / 4 + 1 ≤ 4 → s.roomFor .cab 1 →
    ∃ t, exec (.tail (.line e) f) s = .next t ∧ RoundSent e s.now (heard (.line e) s) t ∧
      t.lead.round = 1 ∧ t.lead.reason = s.lead.reason ∧ t.lead.role = true ∧ t.consist.length = n ∧
      (∀ p, 1 ≤ p → p ≤ 32 → recordAt t.consist.table p = (if p ≤ n then recordAt s.consist.table p else none)) ∧
      t.consist.state = .placing ∧ t.consist.position = 1 ∧ t.consist.placing = s.consist.placing)

/-- A CONFIRM at a node in PLACING whose N takes in the node's position, whose places 1..N all hold records and whose check is
the one those records give, places the node: PLACED, with that N and check, no record beyond N, its PLACING timer stopped,
its lead-loss timer running and PLACED raised. The frame goes on, or back from the end node, unwritten but for the hop.
A CONFIRM that does not agree leaves the node in PLACING with its PLACING timer restarted, and goes on with the node's
position in first-mismatch where that was 0. A node in PLACED or STALE writes nothing into it and keeps its state. -/
def Obligations.ConfirmPlacesNode : Prop :=
  (∀ (e : End) (f : LineFrame) (s : State) (n : Nat), Heard (.line e) (frameOf f .confirm []) s → s.alive e = true →
     s.consist.state = .placing → s.consist.leadEnd = some e → s.lead.role = false →
     acceptedOnEnd (frameOf f .confirm []) = true → (frameOf f .confirm []).leadward = false →
     (byteAt f.body 0).toNat = n → 1 ≤ n → n ≤ 32 → 1 ≤ s.consist.position → s.consist.position ≤ n →
     (∀ p, 1 ≤ p → p ≤ n → recordAt s.consist.table p ≠ none) →
     consistCheck s.consist.table n = wordAt f.body 1 → s.roomFor (.line e) 1 → s.roomFor (.line e.other) 1 →
     ∃ t g, exec (.confirm (.line e) f) s = .next t ∧ t.consist.state = .placed ∧ t.consist.length = n ∧
       t.consist.check = wordAt f.body 1 ∧ t.consist.placing = none ∧ t.present .placed = true ∧
       t.consist.leadLoss = some (s.now + s.itemN Item.leadLoss) ∧
       (∀ p, 1 ≤ p → p ≤ 32 → recordAt t.consist.table p = (if p ≤ n then recordAt s.consist.table p else none)) ∧
       t.consist.position = s.consist.position ∧ t.consist.leadEnd = some e ∧
       g.kind = .confirm ∧ g.payload = f.body ∧ g.hop = s.consist.position ∧ g.checkGood = true ∧
       (s.alive e.other = true → g.leadward = false ∧
         Queues (.line e.other) [⟨g, s.rateAt (.line e), false⟩] (heard (.line e) s) t) ∧
       (s.alive e.other = false → g.leadward = true ∧ g.reflected = true ∧
         Queues (.line e) [⟨g, s.rateAt (.line e), false⟩] (heard (.line e) s) t) ∧
       { t with pu1 := s.pu1, pu2 := s.pu2, end1 := s.end1, end2 := s.end2, events := s.events,
                consist := s.consist } = s) ∧
  (∀ (e : End) (f : LineFrame) (s : State) (p : Byte), Heard (.line e) (frameOf f .confirm []) s → s.alive e = true →
    s.consist.state = .placing → s.consist.leadEnd = some e → s.lead.role = false →
    acceptedOnEnd (frameOf f .confirm []) = true → (frameOf f .confirm []).leadward = false →
    s.consist.position = p.toNat → 1 ≤ p.toNat → p.toNat ≤ 32 → s.roomFor (.line e) 1 → s.roomFor (.line e.other) 1 →
    (byteAt f.body 0 = 0 ∨ 32 < (byteAt f.body 0).toNat ∨ (byteAt f.body 0).toNat < p.toNat ∨
      (∃ q, 1 ≤ q ∧ q ≤ (byteAt f.body 0).toNat ∧ recordAt s.consist.table q = none) ∨
      consistCheck s.consist.table (byteAt f.body 0).toNat ≠ wordAt f.body 1) →
    ∃ t g, exec (.confirm (.line e) f) s = .next t ∧
      t.consist = { s.consist with placing := some (s.now + 3 * s.itemN Item.callWindow) } ∧ g.kind = .confirm ∧
      g.payload = f.body.take 3 ++ [if byteAt f.body 3 = 0 then p else byteAt f.body 3] ∧ SweepGoesOn e g s t ∧
      { t with pu1 := s.pu1, pu2 := s.pu2, end1 := s.end1, end2 := s.end2, consist := s.consist } = s) ∧
  (∀ (e : End) (f : LineFrame) (s : State), Heard (.line e) (frameOf f .confirm []) s → s.alive e = true →
    s.placedOrStale = true → s.consist.position ≤ 32 → s.consist.leadEnd = some e → s.lead.role = false →
    acceptedOnEnd (frameOf f .confirm []) = true → (frameOf f .confirm []).leadward = false →
    s.roomFor (.line e) 1 → s.roomFor (.line e.other) 1 →
    ∃ t g, exec (.confirm (.line e) f) s = .next t ∧
      t.consist = { s.consist with
        leadLoss := if f.src = 1 then some (s.now + s.itemN Item.leadLoss) else s.consist.leadLoss } ∧
      g.kind = .confirm ∧ g.payload = f.body ∧ SweepGoesOn e g s t ∧
      { t with pu1 := s.pu1, pu2 := s.pu2, end1 := s.end1, end2 := s.end2, consist := s.consist } = s)

/-- A reflected CONFIRM that finds no mismatch, comes from position N and carries the lead's N and check takes the lead from
CONFIRMING to LEADING: PLACED and raised, window stopped, attempt and round 1, misses 0, and surveys and heating cycles
begin with a fresh cycle number. Any other reflected CONFIRM fails the round, and so does the call window's expiry in
ROSTERING or CONFIRMING: after the first and second round the next is sent whole again over the same table and N, and the
third fails the roll call with CONFIRM, the node left PLACING. -/
def Obligations.ConfirmedLeadLeads : Prop :=
  (∀ (e : End) (f : LineFrame) (s : State), Heard (.line e) (frameOf f .confirm []) s → s.alive e = true →
     s.consist.state = .placing → s.consist.position = 1 → s.lead.role = true → s.lead.state = .confirming →
     s.consist.leadEnd = some e.other → acceptedOnEnd (frameOf f .confirm []) = true →
     (frameOf f .confirm []).leadward = true → (frameOf f .confirm []).hop = s.consist.length →
     (byteAt f.body 0).toNat = s.consist.length → wordAt f.body 1 = s.consist.check → byteAt f.body 3 = 0 →
     ∃ t, exec (.reflectedConfirm (.line e) f) s = .next t ∧ t.lead.state = .leading ∧ t.lead.role = true ∧
       t.lead.window = none ∧ t.lead.attempt = 1 ∧ t.lead.round = 1 ∧ t.consist.state = .placed ∧
       t.present .placed = true ∧ t.consist.table = s.consist.table ∧ t.consist.length = s.consist.length ∧
       t.consist.check = s.consist.check ∧ t.survey.misses = 0 ∧
       t.survey.period = some (s.now + s.itemN Item.surveyPeriod) ∧
       t.seq.periodTimer = some (s.now + 1000 * s.seq.period) ∧ t.seq.number = s.seq.number + 1 ∧
       t.seq.cycle = some ⟨1, s.seq.budget, s.seq.demand⟩ ∧ t.doors = s.doors ∧ t.items = s.items) ∧
  (∀ (e : End) (f : LineFrame) (s : State), LeadHears e .confirm f s → s.alive e = true → s.lead.state = .confirming →
    (frameOf f .confirm []).leadward = true →
    ¬ ((frameOf f .confirm []).hop = s.consist.length ∧ (byteAt f.body 0).toNat = s.consist.length ∧
      wordAt f.body 1 = s.consist.check ∧ byteAt f.body 3 = 0) → s.roomFor .cab 1 →
    (s.lead.round < 3 → (s.port (.line e)).queue.length + (s.consist.length + 3) / 4 + 1 ≤ 4 →
      ∃ t, exec (.reflectedConfirm (.line e) f) s = .next t ∧ RoundSent e s.now (heard (.line e) s) t ∧
        t.lead = { s.lead with round := s.lead.round + 1, window := t.lead.window, sendList := [] } ∧
        { t.consist with check := s.consist.check } = (heard (.line e) s).consist) ∧
    (3 ≤ s.lead.round → ∃ t, exec (.reflectedConfirm (.line e) f) s = .next t ∧
      FailsPlacing .confirm s.now (heard (.line e) s) t)) ∧
  (∀ (e : End) (s : State) (d : Nat), s.supplyLow = false → s.atRest → s.lead.window = some d →
    (s.lead.state = .rostering ∨ s.lead.state = .confirming) → s.consist.state = .placing → s.consist.position = 1 →
    s.consist.leadEnd = some e.other → s.alive e = true → s.roomFor .cab 1 →
    (s.lead.round < 3 → (s.port (.line e)).queue.length + (s.consist.length + 3) / 4 + 1 ≤ 4 →
      ∃ t, exec .callWindowExpiry s = .next t ∧ RoundSent e (max s.now d) s t ∧
        t.lead = { s.lead with
          state := .confirming, round := s.lead.round + 1, window := t.lead.window, sendList := [] } ∧
        { t.consist with check := s.consist.check } = s.consist) ∧
    (3 ≤ s.lead.round → ∃ t, exec .callWindowExpiry s = .next t ∧ FailsPlacing .confirm (max s.now d) s t))

/-! ### Supervision (file 04) -/

/-- The lead-loss timer expires: LEAD_LOST is raised, and a node in PLACED enters STALE with its position and table kept. The
PLACING timer expires: the node returns to UNPLACED without position, leadward end and table, raises UNPLACED, and its
cycle record is cleared; queues, doors and heating stay. -/
def Obligations.ConsistTimersExpire : Prop :=
  (∀ (s : State) (d : Nat), s.supplyLow = false → s.consist.leadLoss = some d →
      ∃ t, exec .leadLossExpiry s = .next t ∧ t.present .leadLost = true ∧
        (s.consist.state = .placed → t.present .stale = true) ∧
        t.consist = { s.consist with leadLoss := none,
                                     state := if s.consist.state = .placed then .stale else s.consist.state } ∧
        { t with now := s.now, events := s.events, consist := s.consist } = s) ∧
  (∀ (s : State) (d : Nat), s.supplyLow = false → s.atRest → s.consist.state = .placing → s.consist.placing = some d →
      ∃ t, exec .placingTimeout s = .next t ∧ t.consist.state = .unplaced ∧ t.consist.position = 0 ∧
        t.consist.leadEnd = none ∧ t.consist.table = emptyTable ∧ t.consist.length = 0 ∧ t.consist.check = 0 ∧
        t.consist.placing = none ∧ t.present .unplaced = true ∧ t.heat.cycleRec = none ∧ t.heat.grant = 0 ∧
        { t with now := s.now, events := s.events, consist := s.consist,
                 heat := { t.heat with cycleRec := s.heat.cycleRec, grant := s.heat.grant } } = s)

/-- A SURVEY at a node in PLACED or STALE with position p: it disagrees where its hop plus one is not p or its N or check is
not the node's, and then leaves a PLACED node STALE. The frame sent on carries p as hop and end position, p in each first
field that was 0 and that the node has cause to write, and the all-secured flag cleared where the doors are not
secured. First-event goes by the event set that the survey finds: a STALE that it raises itself is in the next one (log 37).
The unused flag bits go on as received, which is the model's reading (log 22). -/
def Obligations.SurveyIsWritten : Prop :=
  ∀ (e : End) (f : LineFrame) (s : State) (p : Byte), Heard (.line e) (frameOf f .survey []) s → s.alive e = true →
    s.placedOrStale = true → s.consist.position = p.toNat → 1 ≤ p.toNat → p.toNat ≤ 32 → s.consist.leadEnd = some e →
    s.lead.role = false → acceptedOnEnd (frameOf f .survey []) = true → (frameOf f .survey []).leadward = false →
    s.roomFor (.line e) 1 → s.roomFor (.line e.other) 1 →
    ∃ t g, exec (.survey (.line e) f) s = .next t ∧
      t.consist.state =
        (if (frameOf f .survey []).hop + 1 = p.toNat ∧ (byteAt f.body 1).toNat = s.consist.length ∧
            wordAt f.body 2 = s.consist.check then s.consist.state else .stale) ∧
      t.consist.leadLoss =
        (if f.src = 1 then some (s.now + s.itemN Item.leadLoss) else s.consist.leadLoss) ∧
      g.kind = .survey ∧ g.hop = p.toNat ∧ g.dest = 255 ∧ g.src = f.src ∧ g.checkGood = true ∧
      g.payload.take 4 = f.body.take 4 ∧ byteAt g.payload 4 = p ∧
      byteAt g.payload 5 = (if s.doorsSecured then byteAt f.body 5 else byteAt f.body 5 &&& 0xFE#8) ∧
      byteAt g.payload 6 = (if byteAt f.body 6 = 0 ∧ s.doorsSecured = false then p else byteAt f.body 6) ∧
      byteAt g.payload 7 =
        (if byteAt f.body 7 = 0 ∧ (s.doorFault .a = true ∨ s.doorFault .b = true) then p else byteAt f.body 7) ∧
      byteAt g.payload 8 = (if byteAt f.body 8 = 0 ∧ t.consist.state = .stale then p else byteAt f.body 8) ∧
      byteAt g.payload 9 =
        (if byteAt f.body 9 = 0 ∧ (s.consist.comp1 = .segmentFault ∨ s.consist.comp2 = .segmentFault) then p
         else byteAt f.body 9) ∧
      byteAt g.payload 10 =
        (if byteAt f.body 10 = 0 ∧ s.events &&& s.notices ≠ 0 then p else byteAt f.body 10) ∧
      (s.alive e.other = true → g.leadward = false ∧
        Queues (.line e.other) [⟨g, s.rateAt (.line e), false⟩] (heard (.line e) s) t) ∧
      (s.alive e.other = false → g.leadward = true ∧ g.reflected = true ∧
        Queues (.line e) [⟨g, s.rateAt (.line e), false⟩] (heard (.line e) s) t) ∧
      { t with pu1 := s.pu1, pu2 := s.pu2, end1 := s.end1, end2 := s.end2, events := s.events,
               consist := { t.consist with state := s.consist.state, leadLoss := s.consist.leadLoss } } = s

/-- The reflected SURVEY that is outstanding is recorded at the lead in LEADING; without auto-recall its stale test leaves
the lead LEADING, and one LEAD STATUS is offered. Any other reflected SURVEY changes nothing. -/
def Obligations.ReflectedSurveyIsRecorded : Prop :=
  ∀ (e : End) (f : LineFrame) (s : State), Heard (.line e) (frameOf f .survey []) s → s.alive e = true →
    s.holdsPosition = true → s.consist.position = 1 → s.lead.role = true → s.consist.leadEnd = some e.other →
    acceptedOnEnd (frameOf f .survey []) = true → (frameOf f .survey []).leadward = true →
    (s.lead.state = .leading → s.survey.outstanding = some (byteAt f.body 0) → s.item Item.autoRecall ≠ 1 →
      s.roomFor .cab 1 →
      ∃ t g, exec (.reflectedSurvey (.line e) f) s = .next t ∧ t.lead = s.lead ∧ t.survey.outstanding = none ∧
        t.survey.misses = 0 ∧
        t.survey.record = ⟨byteAt f.body 0, (byteAt f.body 5).getLsbD 0, byteAt f.body 4, byteAt f.body 6,
          byteAt f.body 7, byteAt f.body 8, byteAt f.body 9, byteAt f.body 10⟩ ∧
        t.survey.foundStale = decide ((byteAt f.body 4).toNat ≠ s.consist.length ∨ byteAt f.body 8 ≠ 0) ∧
        t.consist = { s.consist with
          state := if t.survey.foundStale = true ∧ s.consist.state = .placed then .stale else s.consist.state } ∧
        Queues .cab [queued g] s t ∧ g.kind = .leadStatus ∧ g.payload = leadStatusPayload t ∧ g.checkGood = true ∧
        t.survey.period = s.survey.period ∧ t.doors = s.doors ∧ t.heat = s.heat ∧ t.seq = s.seq) ∧
    (s.lead.state ≠ .leading ∨ s.survey.outstanding ≠ some (byteAt f.body 0) →
      exec (.reflectedSurvey (.line e) f) s = .next (heard (.line e) s))

/-- The survey period timer expires at a lead with a neighbour: it restarts, an outstanding survey is counted as a miss with
one LEAD STATUS, and the next survey goes out carrying the next number, the lead's N and check, its end position 1 and its
own findings in every first field, and is outstanding. (A third miss with auto-recall starts a roll call instead.) A lead
whose neighbour has gone takes its own survey back at once. A miss counted in that event still gives its own LEAD STATUS,
ahead of the evaluation's: it repeats the last record with the miss count raised. That there are two, in this order and
with the node as the event leaves it, is the model's reading (log 36). -/
def Obligations.SurveysAreBuilt : Prop :=
  (∀ (s : State) (d : Nat) (e : End), s.supplyLow = false → s.atRest → s.survey.period = some d →
    s.holdsPosition = true → s.consist.leadEnd = some e.other → s.alive e = true → s.roomFor (.line e) 1 →
    (s.survey.outstanding = none ∨ s.item Item.autoRecall ≠ 1) →
    ∃ t g, exec .surveyPeriodExpiry s = .next t ∧
      t.survey.period = some (max s.now d + s.itemN Item.surveyPeriod) ∧ t.survey.number = s.survey.number + 1 ∧
      t.survey.outstanding = some (s.survey.number + 1) ∧
      t.survey.misses =
        (if s.survey.outstanding.isSome then min 3 (s.survey.misses + 1) else s.survey.misses) ∧
      (s.survey.outstanding.isSome = true → s.survey.misses = 2 →
        t.present .leadLost = true ∧ t.consist.state ≠ .placed) ∧
      (¬ (s.survey.outstanding.isSome = true ∧ s.survey.misses = 2) → t.consist = s.consist) ∧
      Queues (.line e) [queued g] s t ∧ g.kind = .survey ∧ g.hop = 1 ∧ g.src = 1 ∧ g.dest = 255 ∧
      g.leadward = false ∧ g.checkGood = true ∧ byteAt g.payload 0 = s.survey.number + 1 ∧
      byteAt g.payload 1 = byteOf s.consist.length ∧ wordAt g.payload 2 = s.consist.check ∧
      byteAt g.payload 4 = 1 ∧ byteAt g.payload 5 = (if s.doorsSecured then 1 else 0) ∧
      byteAt g.payload 6 = (if s.doorsSecured then 0 else 1) ∧
      byteAt g.payload 7 = (if s.doorFault .a = true ∨ s.doorFault .b = true then 1 else 0) ∧
      byteAt g.payload 8 = (if t.consist.state = .stale then 1 else 0) ∧
      byteAt g.payload 9 =
        (if s.consist.comp1 = .segmentFault ∨ s.consist.comp2 = .segmentFault then 1 else 0) ∧
      (s.roomFor .cab 1 → byteAt g.payload 10 = (if t.events &&& s.notices ≠ 0 then 1 else 0)) ∧
      (s.survey.outstanding.isSome = true → s.roomFor .cab 1 → StatusSent t s t) ∧
      (s.survey.outstanding = none → t.puC = s.puC) ∧ t.survey.record = s.survey.record ∧
      t.lead = s.lead ∧ t.doors = s.doors ∧ t.heat = s.heat ∧ t.seq = s.seq) ∧
  (∀ (s : State) (d : Nat) (e : End), s.supplyLow = false → s.atRest → s.survey.period = some d →
    s.placedOrStale = true → s.lead.state = .leading → s.consist.leadEnd = some e.other → s.alive e = false →
    s.survey.outstanding.isSome = true → s.item Item.autoRecall ≠ 1 → s.roomFor .cab 2 →
    ∃ t g h, exec .surveyPeriodExpiry s = .next t ∧ Queues .cab [queued g, queued h] s t ∧
      (∀ x, t.port (.line x) = s.port (.line x)) ∧ g.kind = .leadStatus ∧ h.kind = .leadStatus ∧
      g.payload = leadStatusPayload { t with survey := { s.survey with misses := min 3 (s.survey.misses + 1) } } ∧
      h.payload = leadStatusPayload t ∧ g.checkGood = true ∧ h.checkGood = true ∧ t.survey.misses = 0 ∧
      t.survey.outstanding = none ∧ t.survey.number = s.survey.number + 1 ∧
      t.survey.record.number = s.survey.number + 1 ∧ t.survey.record.endPosition = 1 ∧
      t.survey.record.allSecured = s.doorsSecured ∧
      t.survey.record.firstFault = (if s.doorFault .a = true ∨ s.doorFault .b = true then 1 else 0) ∧
      (s.consist.length ≠ 1 → t.survey.foundStale = true ∧ t.consist.state = .stale) ∧ t.lead = s.lead ∧
      t.doors = s.doors ∧ t.heat = s.heat ∧ t.seq = s.seq)

/-! ### Orders and doors (files 05, 06) -/

/-- A selected IGNORE hands nothing to any unit: the record takes IGNORED with the entry's index, both sides NOT_ADDRESSED,
and nothing else changes, the unmatched count included; and the scan ends there, whatever later entries hold. -/
def Obligations.IgnoreEndsTheScan : Prop :=
  ∀ (d : OrderData) (s : State) (k : Nat) (e : OrderEntry), s.orders.list[k]? = some e → entryMatches d.code s e = true →
    e.action = .ignore → (∀ j x, j < k → s.orders.list[j]? = some x → entryMatches d.code s x = false) →
    takeOrder d s = { s with dispatch := { s.dispatch with
      last := ⟨d.code, d.side, d.first, d.last, some k, some .ignore, .ignored, .notAddressed, .notAddressed⟩ } }

/-- An ORDER from the cab that matches no entry at a lead without a position goes no further and is counted; one that selects
a HEAT_CAP sets C_cmd to the smaller of the parameter and 4; each replaces the record whole. A lead that holds a position
and has an outward neighbour handles the ORDER and sends it on at the cab's rate, with hop 1 and source 1. At any node, a
CHIME starts the chime timer for the parameter times 100 ms, or stops it with 0; a release with a side code above 2 or a
malformed range does nothing but record BAD_ARGUMENT; and a release, close or door reset at a node out of the ORDER's range
does nothing but record OUT_OF_RANGE. -/
def Obligations.OrdersOfTheCabAreHandled : Prop :=
  (∀ (f : LineFrame) (s : State), Heard .cab (frameOf f .order []) s → s.lead.role = true → s.holdsPosition = false →
    (s.selected (byteAt f.body 0) = none →
      exec (.order .cab f) s = .next { heard .cab s with dispatch :=
        ⟨⟨byteAt f.body 0, byteAt f.body 1, byteAt f.body 2, byteAt f.body 3, none, none, .unmatched, .notAddressed,
          .notAddressed⟩, min 255 (s.dispatch.unmatched + 1)⟩ }) ∧
    (∀ k x, s.selected (byteAt f.body 0) = some (k, x) → x.action = .heatCap →
      ∃ t, exec (.order .cab f) s = .next t ∧ t.heat.cCmd = min x.param.toNat 4 ∧ t.heat.level ≤ t.heat.cCmd ∧
        t.heat.target = s.heat.target ∧ t.dispatch = ⟨⟨byteAt f.body 0, byteAt f.body 1, byteAt f.body 2,
          byteAt f.body 3, some k, some .heatCap, .done, .notAddressed, .notAddressed⟩, s.dispatch.unmatched⟩ ∧
        t.doors = s.doors ∧ t.consist = s.consist ∧ (∀ q, q ≠ .cab → t.port q = s.port q))) ∧
  (∀ (f : LineFrame) (s : State) (e : End), Heard .cab (frameOf f .order []) s → s.lead.role = true →
    s.holdsPosition = true → s.consist.leadEnd = some e.other → s.alive e = true → s.roomFor (.line e) 1 →
    ∃ t g, exec (.order .cab f) s = .next t ∧
      t.dispatch = (takeOrder (OrderData.ofPayload f.body) (heard .cab s)).dispatch ∧
      (∀ c, t.channel c = (takeOrder (OrderData.ofPayload f.body) (heard .cab s)).channel c) ∧
      t.doors.chime = (takeOrder (OrderData.ofPayload f.body) (heard .cab s)).doors.chime ∧
      t.heat.cCmd = (takeOrder (OrderData.ofPayload f.body) (heard .cab s)).heat.cCmd ∧
      Queues (.line e) [⟨g, s.rateAt .cab, false⟩] s t ∧ g.kind = .order ∧ g.leadward = false ∧ g.reflected = false ∧
      g.hop = 1 ∧ g.src = 1 ∧ g.dest = 255 ∧ g.payload = f.body ∧ g.checkGood = true ∧ t.puC = (heard .cab s).puC ∧
      t.port (.line e.other) = s.port (.line e.other) ∧ t.consist = s.consist ∧ t.lead = s.lead) ∧
  (∀ (d : OrderData) (s : State) (k : Nat) (x : OrderEntry), s.selected d.code = some (k, x) →
    (x.action = .chime → takeOrder d s = { s with
      doors := { s.doors with chime := if x.param = 0 then none else some (s.now + 100 * x.param.toNat) }
      dispatch := { s.dispatch with last :=
        ⟨d.code, d.side, d.first, d.last, some k, some .chime, .done, .notAddressed, .notAddressed⟩ } }) ∧
    (x.action = .release → (2 < d.side.toNat ∨ (d.first ≠ 0 ∧
        (32 < d.first.toNat ∨ d.last.toNat < d.first.toNat ∨ 32 < d.last.toNat))) →
      takeOrder d s = { s with dispatch := { s.dispatch with last :=
        ⟨d.code, d.side, d.first, d.last, some k, some .release, .badArgument, .notAddressed, .notAddressed⟩ } }) ∧
    ((x.action = .release ∧ d.side.toNat ≤ 2 ∨ x.action = .close ∨ x.action = .doorReset) → s.holdsPosition = true →
      1 ≤ d.first.toNat → d.first.toNat ≤ d.last.toNat → d.last.toNat ≤ 32 →
      (s.consist.position < d.first.toNat ∨ d.last.toNat < s.consist.position) →
      takeOrder d s = { s with dispatch := { s.dispatch with last :=
        ⟨d.code, d.side, d.first, d.last, some k, some x.action, .outOfRange, .notAddressed, .notAddressed⟩ } }))

/-- A release order for train LEFT, whole train, at a PLACED node standing still: the channel on the train's left by the
node's orientation, LOCKED before, is RELEASED with its output on, and the other is not addressed; a node that is not
PLACED refuses with NO_CONSIST. The order goes on along the train. At any node, a
well-formed release in range is decided for each channel that the side names by the channel's state, standstill and
consist: FAULT is refused with IN_FAULT, ISOLATED with ISOLATED, RELEASED is UNCHANGED, and LOCKED, WARNING, CLOSING and
RECYCLE are refused with NOT_STANDSTILL or NO_CONSIST, or accepted into RELEASED with the timer stopped and the retry count
0. A refused or unnamed channel stays as it was, and the outcome follows the answers. An ORDER taken from the line on the
leadward end is handled whole and goes on, or is consumed at the end node. -/
def Obligations.ReleaseOpensTheNamedSide : Prop :=
  (∀ (e : End) (f : LineFrame) (s : State) (k : Nat) (x : OrderEntry) (c : Side),
     Heard (.line e) (frameOf f .order []) s → s.alive e = true → s.alive e.other = true → s.placedOrStale = true →
     1 ≤ s.consist.position → s.consist.position ≤ 32 → s.consist.leadEnd = some e → s.lead.role = false →
     acceptedOnEnd (frameOf f .order []) = true → s.roomFor (.line e.other) 1 →
     s.selected (byteAt f.body 0) = some (k, x) → x.action = .release → byteAt f.body 1 = 0 → byteAt f.body 2 = 0 →
     (c = if e = .e1 then .a else .b) → (s.channel c).state = .locked → s.active .zsp = true →
     ∃ t g, exec (.order (.line e) f) s = .next t ∧
       (s.consist.state = .placed → (t.channel c).state = .released ∧ (t.channel c).retries = 0 ∧
         t.output (.release c) = true ∧ t.output (.close c) = false ∧ t.output .loop = false ∧
         t.dispatch.last.outcome = .done) ∧
       (s.consist.state = .stale → t.channel c = s.channel c ∧ t.dispatch.last.outcome = .refused ∧
         (if c = .a then t.dispatch.last.sideA else t.dispatch.last.sideB) = .refused .noConsist) ∧
       (∀ c', c' ≠ c → t.channel c' = s.channel c') ∧ t.dispatch.last.entry = some k ∧
       (if c = .a then t.dispatch.last.sideB else t.dispatch.last.sideA) = .notAddressed ∧
       Queues (.line e.other) [⟨g, s.rateAt (.line e), false⟩] (heard (.line e) s) t ∧ g.kind = .order ∧
       g.hop = s.consist.position ∧ g.payload = f.body ∧ g.checkGood = true ∧ t.items = s.items ∧
       t.lead = s.lead ∧ t.consist.state = s.consist.state) ∧
  (∀ (d : OrderData) (s : State) (k : Nat) (x : OrderEntry), s.selected d.code = some (k, x) → x.action = .release →
    argumentsGood d = true → inRange d s = true →
    (∀ c, (takeOrder d s).channel c =
      (if addressed d.side s c = true ∧ ((s.channel c).state = .locked ∨ (s.channel c).state = .warning ∨
          (s.channel c).state = .closing ∨ (s.channel c).state = .recycle) ∧ s.active .zsp = true ∧
          s.consist.state = .placed then
        { s.channel c with state := .released, timer := none, retries := 0 } else s.channel c)) ∧
    (∀ c, (if c = .a then (takeOrder d s).dispatch.last.sideA else (takeOrder d s).dispatch.last.sideB) =
      (if addressed d.side s c = false then .notAddressed
       else if (s.channel c).state = .fault then .refused .inFault
       else if (s.channel c).state = .isolated then .refused .isolated
       else if (s.channel c).state = .released then .unchanged
       else if s.active .zsp = false then .refused .notStandstill
       else if s.consist.state ≠ .placed then .refused .noConsist
       else .accepted)) ∧
    (takeOrder d s).dispatch.last.outcome =
      (if (takeOrder d s).dispatch.last.sideA.isRefused = false ∧ (takeOrder d s).dispatch.last.sideB.isRefused = false
       then .done
       else if (addressed d.side s .a = false ∨ (takeOrder d s).dispatch.last.sideA.isRefused = true) ∧
         (addressed d.side s .b = false ∨ (takeOrder d s).dispatch.last.sideB.isRefused = true)
       then .refused else .partly) ∧
    { takeOrder d s with doors := s.doors, dispatch := s.dispatch } = s ∧
    (takeOrder d s).doors.tone = s.doors.tone ∧ (takeOrder d s).doors.chime = s.doors.chime) ∧
  (∀ (e : End) (f : LineFrame) (s : State), Heard (.line e) (frameOf f .order []) s → s.holdsPosition = true →
    s.consist.position ≤ 32 → s.consist.leadEnd = some e → s.lead.role = false →
    acceptedOnEnd (frameOf f .order []) = true → (frameOf f .order []).leadward = false →
    (s.alive e.other = true → s.roomFor (.line e.other) 1) →
    ∃ t, exec (.order (.line e) f) s = .next t ∧
      t.dispatch = (takeOrder (OrderData.ofPayload f.body) (heard (.line e) s)).dispatch ∧
      (∀ c, t.channel c = (takeOrder (OrderData.ofPayload f.body) (heard (.line e) s)).channel c) ∧
      t.doors.chime = (takeOrder (OrderData.ofPayload f.body) (heard (.line e) s)).doors.chime ∧
      t.heat.cCmd = (takeOrder (OrderData.ofPayload f.body) (heard (.line e) s)).heat.cCmd ∧
      (s.alive e.other = true → ∃ g, Queues (.line e.other) [⟨g, s.rateAt (.line e), false⟩] (heard (.line e) s) t ∧
        g.kind = .order ∧ g.hop = s.consist.position ∧ g.leadward = false ∧ g.payload = f.body ∧ g.checkGood = true) ∧
      (s.alive e.other = false → t.port (.line e.other) = s.port (.line e.other)) ∧ t.items = s.items ∧
      t.lead = s.lead ∧ t.inputs = s.inputs)

/-- A door reset handed to the channels of a node in the ORDER's range: each channel in FAULT outside the settling hold is
ACCEPTED, enters WARNING with its retry count 0 and its warn timer started, its RELEASE on; every other is UNCHANGED and
keeps its state, a RELEASED one too. A close does the same on the channels the ORDER's side names, and takes a RELEASED one
into WARNING. No unit but the door unit and the dispatcher's record is touched. -/
def Obligations.DoorResetClearsFaults : Prop :=
  ∀ (d : OrderData) (s : State) (k : Nat) (x : OrderEntry), s.selected d.code = some (k, x) → inRange d s = true →
    (x.action = .doorReset ∨ x.action = .close) →
    (∀ c, (takeOrder d s).channel c =
      (if x.action = .close ∧ addressed d.side s c = false then s.channel c
       else if (s.channel c).state = .fault ∧ (s.channel c).hold = false then
        { s.channel c with state := .warning, retries := 0, timer := some (s.now + s.itemN Item.warnTime) }
       else if x.action = .close ∧ (s.channel c).state = .released then
        { s.channel c with state := .warning, timer := some (s.now + s.itemN Item.warnTime) }
       else s.channel c)) ∧
    (∀ c, (if c = .a then (takeOrder d s).dispatch.last.sideA else (takeOrder d s).dispatch.last.sideB) =
      (if x.action = .close ∧ addressed d.side s c = false then .notAddressed
       else if ((s.channel c).state = .fault ∧ (s.channel c).hold = false) ∨
           (x.action = .close ∧ (s.channel c).state = .released) then .accepted
       else .unchanged)) ∧
    (s.supplyLow = false → ∀ c, ((takeOrder d s).channel c).state = .warning →
      (takeOrder d s).output (.release c) = true) ∧
    { takeOrder d s with doors := s.doors, dispatch := s.dispatch } = s ∧
    (takeOrder d s).doors.tone = s.doors.tone ∧ (takeOrder d s).doors.chime = s.doors.chime

/-- The warn timer of a channel in WARNING, and the recycle timer of one in RECYCLE, expire into CLOSING with the full close
time, the retry count kept and CLOSE on, or, with all leaves closed, into LOCKED in the same event with CLOSE not turned
on; the other channel is not touched. In RECYCLE both outputs are off, and a leaf that opens or closes leaves the channel
as it is. -/
def Obligations.WarningAndRecycleEndInClosing : Prop :=
  (∀ (c : Side) (s : State) (d : Nat) (i : Instr), s.supplyLow = false → s.atRest → (s.channel c).timer = some d →
    (i = .warnTimerExpiry c ∧ (s.channel c).state = .warning ∨
      i = .recycleTimerExpiry c ∧ (s.channel c).state = .recycle) →
    ∃ t, exec i s = .next t ∧
      (s.allClosed c = false → t.channel c = { s.channel c with
          state := .closing, timer := some (max s.now d + s.itemN Item.closeTime) } ∧
        t.output (.close c) = true ∧ t.output (.release c) = false) ∧
      (s.allClosed c = true → t.channel c = { s.channel c with
          state := .locked, hold := false, timer := none, retries := 0 } ∧
        t.output (.close c) = false ∧ t.output (.release c) = false) ∧
      (∀ c', c' ≠ c → t.channel c' = s.channel c') ∧ t.consist = s.consist ∧ t.events = s.events ∧
      (∀ p, t.port p = s.port p) ∧ t.items = s.items ∧ t.inputs = s.inputs ∧ t.heat.target = s.heat.target) ∧
  (∀ (c : Side) (n : Fin 4) (s : State) (d : Nat), s.supplyLow = false → s.atRest → (s.channel c).hold = false →
    (s.channel c).state = .recycle → (s.input (.leaf c n)).timer = some d →
    s.output (.close c) = false ∧ s.output (.release c) = false ∧
    ∃ t, exec (.stabilityTimerExpiry (.leaf c n)) s = .next t ∧ t.channel c = s.channel c ∧
      t.output (.close c) = false ∧ t.output (.release c) = false)

/-- The close timer of a channel in CLOSING expires: CLOSE turns off, and the retry count is compared with the max retries
item. Where it is less, the channel enters RECYCLE with the count up by one, the recycle timer started and DOOR_RECYCLE
raised; otherwise it enters FAULT with cause CLOSE_TIMEOUT and its door-fault event raised. A count of up to 5 does not
exceed 5, with the item in its range. RELEASE stays as it was, and nothing else changes. -/
def Obligations.CloseTimeoutRecyclesOrFaults : Prop :=
  ∀ (c : Side) (s : State) (d : Nat), s.supplyLow = false → s.atRest → (s.channel c).timer = some d →
    (s.channel c).state = .closing →
    ∃ t, exec (.closeTimerExpiry c) s = .next t ∧ t.output (.close c) = false ∧
      t.output (.release c) = s.output (.release c) ∧
      ((s.channel c).retries < s.itemN Item.maxRetries → t.present .doorRecycle = true ∧
        t.channel c = { s.channel c with state := .recycle, retries := (s.channel c).retries + 1,
                                         timer := some (max s.now d + s.itemN Item.recycleTime) }) ∧
      (s.itemN Item.maxRetries ≤ (s.channel c).retries → t.present (doorFaultEvent c) = true ∧
        t.channel c = { s.channel c with state := .fault, hold := false, timer := none, cause := .closeTimeout }) ∧
      (∀ ev, t.present ev = (s.present ev ||
        (if (s.channel c).retries < s.itemN Item.maxRetries then ev == .doorRecycle else ev == doorFaultEvent c))) ∧
      (s.itemN Item.maxRetries ≤ 5 → (s.channel c).retries ≤ 5 → (t.channel c).retries ≤ 5) ∧
      (∀ c', c' ≠ c → t.channel c' = s.channel c') ∧ t.doors.chime = s.doors.chime ∧ t.doors.tone = s.doors.tone ∧
      { t with now := s.now, events := s.events, doors := s.doors } = s

/-- The chime timer's expiry ends the tone where no channel is in WARNING and leaves it unbroken where one is; a phase of an
INTERRUPTED tone ends in the other, counted on from the moment the demand began. -/
def Obligations.ToneFollowsDemand : Prop :=
  (∀ (s : State) (d : Nat), s.supplyLow = false → s.atRest → s.doors.chime = some d →
    ∃ t, exec .chimeTimerExpiry s = .next t ∧
      t.doors = { s.doors with chime := none, tone :=
        if s.doors.a.state = .warning ∨ s.doors.b.state = .warning then s.doors.tone else none } ∧
      { t with now := s.now, doors := s.doors } = s) ∧
  (∀ (s : State) (x : Tone) (d : Nat), s.supplyLow = false → s.atRest → s.doors.tone = some x → x.phase = some d →
    exec .tonePhase s = .next { s with now := max s.now d, doors := { s.doors with
      tone := some { x with phaseOn := !x.phaseOn, phase := some (d + 500) } } })

/-! ### Heating (files 08, 09) -/

/-- A supply sample enters the window, which holds the last eight, and the next is due 10 ms on; with eight held V_avg is
their sum over 8, rounded down. In NORMAL the monitor enters SHED exactly where V_avg lies below shed_v: every stage is
then off, the restart block set and SUPPLY_SHED raised. The eighth sample takes it out of SETTLING, into NORMAL with V_avg
at or above restore_v and into SHED otherwise, and no sample before the eighth does. In SHED it enters NORMAL exactly where
V_avg is at or above restore_v; the restart block stays set, and no stage is energized. -/
def Obligations.SupplySamplesShed : Prop :=
  (∀ (s : State) (v : BitVec 12) (d : Nat), s.supplyLow = false → s.atRest → s.heat.sample = some d →
    s.heat.monitor = .normal → s.heat.window.length = 8 →
    ∃ t, exec (.supplySample v) s = .next t ∧ t.heat.window = s.heat.window.tail ++ [v.toNat] ∧
      t.heat.vAvg = (s.heat.window.tail ++ [v.toNat]).sum / 8 ∧ t.heat.sample = some (max s.now d + 10) ∧
      (t.heat.vAvg < s.itemN Item.shedV → t.heat.monitor = .shed ∧ t.heat.level = 0 ∧ t.heat.restartBlock = true ∧
        t.heat.raise = none ∧ t.present .supplyShed = true ∧ t.heat.target = s.heat.target) ∧
      (s.itemN Item.shedV ≤ t.heat.vAvg → t.heat = { s.heat with
        window := t.heat.window, vAvg := t.heat.vAvg, sample := t.heat.sample } ∧ t.events = s.events) ∧
      { t with now := s.now, events := s.events, heat := s.heat } = s) ∧
  (∀ (s : State) (v : BitVec 12) (d : Nat), s.supplyLow = false → s.atRest → s.heat.sample = some d →
    s.heat.monitor = .settling → s.heat.window.length < 7 →
    exec (.supplySample v) s = .next { s with now := max s.now d, heat := { s.heat with
      window := s.heat.window ++ [v.toNat], sample := some (max s.now d + 10) } }) ∧
  (∀ (s : State) (v : BitVec 12) (d : Nat), s.supplyLow = false → s.atRest → s.heat.sample = some d →
    (s.heat.monitor = .settling ∧ s.heat.window.length = 7 ∨ s.heat.monitor = .shed ∧ s.heat.window.length = 8) →
    s.heat.restartBlock = true →
    ∃ t, exec (.supplySample v) s = .next t ∧
      t.heat.window = s.heat.window.drop (s.heat.window.length - 7) ++ [v.toNat] ∧
      t.heat.vAvg = t.heat.window.sum / 8 ∧ t.heat.sample = some (max s.now d + 10) ∧ t.heat.raise = none ∧
      t.heat.monitor = (if s.itemN Item.restoreV ≤ t.heat.vAvg then .normal else .shed) ∧
      (∀ ev, t.present ev = (s.present ev || (ev == .supplyShed && s.heat.monitor == .settling &&
        t.heat.monitor == .shed))) ∧
      t.heat = { s.heat with window := t.heat.window, vAvg := t.heat.vAvg, sample := t.heat.sample,
                             monitor := t.heat.monitor, raise := none } ∧
      { t with now := s.now, events := s.events, heat := s.heat } = s)

/-- The due time of stage e + 1: with its min-off timer expired the stage is energized at once, and the next is due one stage
gap on where t_eff is still above; with the timer running the stage waits, and the timer's expiry energizes it then. Any
other min-off expiry moves no stage. -/
def Obligations.StagesCloseWhenDue : Prop :=
  (∀ (s : State) (r : Raise), s.supplyLow = false → s.atRest → s.heat.raise = some r → r.waiting = false →
    s.heat.minOff.getD s.heat.level none = none →
    exec .stageDue s = .next { s with now := max s.now r.due, heat := { s.heat with
      level := s.heat.level + 1
      raise := if s.heat.level + 1 < s.teff then some ⟨max s.now r.due + s.itemN Item.stageGap, false⟩ else none } }) ∧
  (∀ (s : State) (r : Raise) (d : Nat), s.supplyLow = false → s.atRest → s.heat.raise = some r → r.waiting = false →
    s.heat.minOff.getD s.heat.level none = some d →
    exec .stageDue s = .next { s with now := max s.now r.due, heat := { s.heat with
      raise := some { r with waiting := true } } }) ∧
  (∀ (s : State) (r : Raise) (d : Nat) (i : Fin 4), s.supplyLow = false → s.atRest → s.heat.raise = some r →
    r.waiting = true → s.heat.level = i.val → s.heat.minOff.getD i.val none = some d →
    exec (.minOffExpiry i) s = .next { s with now := max s.now d, heat := { s.heat with
      minOff := s.heat.minOff.set i.val none
      level := s.heat.level + 1
      raise := if s.heat.level + 1 < s.teff then some ⟨max s.now d + s.itemN Item.stageGap, false⟩ else none } }) ∧
  (∀ (s : State) (d : Nat) (i : Fin 4), s.supplyLow = false → s.atRest → s.heat.minOff.getD i.val none = some d →
    (∀ r, s.heat.raise = some r → r.waiting = true → s.heat.level ≠ i.val) →
    exec (.minOffExpiry i) s = .next { s with now := max s.now d, heat := { s.heat with
      minOff := s.heat.minOff.set i.val none } })

/-- The holdover timer expires: t becomes the smaller of e and the fallback level, no stage stays above it, the schedule is
cleared, the timer stays stopped and HEAT_HOLDOVER is raised. -/
def Obligations.HoldoverLowersTarget : Prop :=
  ∀ (s : State) (d : Nat), s.supplyLow = false → s.atRest → s.heat.holdover = some d →
    ∃ t, exec .holdoverExpiry s = .next t ∧ t.heat.target = min s.heat.level (s.itemN Item.fallback) ∧
      t.heat.level = min s.heat.level (s.itemN Item.fallback) ∧ t.heat.raise = none ∧ t.heat.holdover = none ∧
      t.present .heatHoldover = true ∧
      (s.itemN Item.minOff ≠ 0 → ∀ i : Fin 4, t.heat.minOff.getD i none =
        (if t.heat.level ≤ i ∧ i < s.heat.level then some (max s.now d + s.itemN Item.minOff)
         else s.heat.minOff.getD i none)) ∧
      { t with now := s.now, events := s.events, heat := s.heat } = s

/-- A HEAT SET at a node with a position: t becomes the grant of the cycle it closes, or 0 for a cycle the node was not
reckoned in; the holdover timer restarts; in NORMAL the restart block is cleared, and with t_eff above e stage e + 1 is due
at position times the stagger step, clamped into 50..5000 ms. The frame goes on, or is consumed at the end node. A node without a position takes t = 0, has
every stage off, and passes the frame on unchanged. -/
def Obligations.HeatSetGivesTarget : Prop :=
  (∀ (e : End) (f : LineFrame) (s : State), Heard (.line e) (frameOf f .heatSet []) s → s.alive e = true →
     s.holdsPosition = true → s.consist.position ≤ 32 → s.consist.leadEnd = some e → s.lead.role = false →
     acceptedOnEnd (frameOf f .heatSet []) = true → s.roomFor (.line e.other) 1 →
     ∃ t, exec (.heatSet (.line e) f) s = .next t ∧
       t.heat.target = (if s.heat.cycleRec = some (byteAt f.body 0) then s.heat.grant else 0) ∧
       t.heat.holdover = some (s.now + 1000 * s.itemN Item.holdover) ∧ t.heat.level = min s.heat.level t.teff ∧
       (s.heat.monitor = .normal → t.heat.restartBlock = false) ∧
       (s.heat.monitor ≠ .normal → t.heat.restartBlock = s.heat.restartBlock) ∧
       (s.heat.level < t.teff → t.heat.restartBlock = false → t.heat.raise =
         some ⟨s.now + s.consist.position * max 50 (min 5000 (wordAt f.body 1).toNat), false⟩) ∧
       t.heat.cycleRec = s.heat.cycleRec ∧ t.heat.grant = s.heat.grant ∧
       (s.alive e.other = true → ∃ g, Queues (.line e.other) [⟨g, s.rateAt (.line e), false⟩] (heard (.line e) s) t ∧
         g.kind = .heatSet ∧ g.hop = s.consist.position ∧ g.payload = f.body ∧ g.checkGood = true) ∧
       (s.alive e.other = false → t.port (.line e.other) = s.port (.line e.other)) ∧
       { t with pu1 := s.pu1, pu2 := s.pu2, end1 := s.end1, end2 := s.end2, heat := s.heat,
                consist := { t.consist with leadLoss := s.consist.leadLoss } } = s) ∧
  (∀ (e : End) (f : LineFrame) (s : State), Heard (.line e) (frameOf f .heatSet []) s → s.holdsPosition = false →
    acceptedOnEnd (frameOf f .heatSet []) = true → s.roomFor (.line e.other) 1 →
    ∃ t, exec (.heatSet (.line e) f) s = .next t ∧ t.heat.target = 0 ∧ t.heat.level = 0 ∧ t.heat.raise = none ∧
      t.heat.holdover = some (s.now + 1000 * s.itemN Item.holdover) ∧
      t.heat.restartBlock = (if s.heat.monitor = .normal then false else s.heat.restartBlock) ∧
      t.heat.cycleRec = s.heat.cycleRec ∧ t.heat.grant = s.heat.grant ∧
      Queues (.line e.other) [⟨frameOf f .heatSet [], s.rateAt (.line e), false⟩] (heard (.line e) s) t ∧
      (∀ q, q ≠ .line e.other → t.port q = (heard (.line e) s).port q) ∧
      OnlyPorts { heard (.line e) s with heat := t.heat } t)

/-- The pass at a node in PLACED or STALE: cycle number, level and demand go on as received, the counts never fall, and the
residual sent is the residual received less the scaled current of the stage granted in this frame, or the residual
received where none was. A stage is granted only where the coach is eligible for the level. Where it is, and holds the level
below in this cycle, the stage is granted if the residual covers its scaled current, and counted as a shortfall with the
residual as received if not; a pass of level 1 with a new cycle number first begins the cycle record with nothing held. -/
def Obligations.PassKeepsTheBudget : Prop :=
  ∀ (e : End) (f : LineFrame) (s : State) (L : Nat), Heard (.line e) (frameOf f .heatPass []) s → s.alive e = true →
    s.placedOrStale = true → 1 ≤ s.consist.position → s.consist.position ≤ 32 → s.consist.leadEnd = some e →
    s.lead.role = false → acceptedOnEnd (frameOf f .heatPass []) = true →
    (frameOf f .heatPass []).leadward = false → s.roomFor (.line e) 1 → s.roomFor (.line e.other) 1 →
    (byteAt f.body 1).toNat = L →
    ∃ t g, exec (.heatPass (.line e) f) s = .next t ∧ g.kind = .heatPass ∧ g.checkGood = true ∧
      byteAt g.payload 0 = byteAt f.body 0 ∧ byteAt g.payload 1 = byteAt f.body 1 ∧
      byteAt g.payload 6 = byteAt f.body 6 ∧ byteAt f.body 4 ≤ byteAt g.payload 4 ∧
      byteAt f.body 5 ≤ byteAt g.payload 5 ∧ g.hop = s.consist.position ∧
      (2 ≤ L → L ≤ 4 → (byteAt f.body 6).toNat ≤ 4 → s.heat.cycleRec = some (byteAt f.body 0) →
        s.heat.grant + 1 = L → L ≤ s.eligible (byteAt f.body 6).toNat →
        s.scaledCurrent L ≤ (wordAt f.body 2).toNat → t.heat.grant = L ∧
          (wordAt g.payload 2).toNat + s.scaledCurrent L = (wordAt f.body 2).toNat) ∧
      (L = 1 → (byteAt f.body 6).toNat ≤ 4 → t.heat.cycleRec = some (byteAt f.body 0) ∧
        (s.heat.cycleRec ≠ some (byteAt f.body 0) ∨ s.heat.grant = 0 → 1 ≤ s.eligible (byteAt f.body 6).toNat →
          s.scaledCurrent 1 ≤ (wordAt f.body 2).toNat → t.heat.grant = 1 ∧
            (wordAt g.payload 2).toNat + s.scaledCurrent 1 = (wordAt f.body 2).toNat ∧
            (byteAt g.payload 4).toNat = min 255 ((byteAt f.body 4).toNat + 1) ∧
            byteAt g.payload 5 = byteAt f.body 5)) ∧
      (1 ≤ L → L ≤ 4 → (byteAt f.body 6).toNat ≤ 4 → L ≤ s.eligible (byteAt f.body 6).toNat →
        (wordAt f.body 2).toNat < s.scaledCurrent L →
        (s.heat.cycleRec = some (byteAt f.body 0) ∧ s.heat.grant + 1 = L ∨
          L = 1 ∧ s.heat.cycleRec ≠ some (byteAt f.body 0)) →
        t.heat.grant + 1 = L ∧ wordAt g.payload 2 = wordAt f.body 2 ∧ byteAt g.payload 4 = byteAt f.body 4 ∧
          (byteAt g.payload 5).toNat = min 255 ((byteAt f.body 5).toNat + 1)) ∧
      (wordAt g.payload 2 ≠ wordAt f.body 2 ∨ byteAt g.payload 4 ≠ byteAt f.body 4 →
        (wordAt g.payload 2).toNat + s.scaledCurrent L = (wordAt f.body 2).toNat ∧ t.heat.grant = L ∧
        L ≤ s.eligible (byteAt f.body 6).toNat) ∧
      (s.alive e.other = true → g.leadward = false ∧
        Queues (.line e.other) [⟨g, s.rateAt (.line e), false⟩] (heard (.line e) s) t) ∧
      (s.alive e.other = false → g.leadward = true ∧ g.reflected = true ∧
        Queues (.line e) [⟨g, s.rateAt (.line e), false⟩] (heard (.line e) s) t) ∧
      { t with pu1 := s.pu1, pu2 := s.pu2, end1 := s.end1, end2 := s.end2,
               heat := { t.heat with cycleRec := s.heat.cycleRec, grant := s.heat.grant },
               consist := { t.consist with leadLoss := s.consist.leadLoss } } = s

/-- A reflected pass of the current level that ends its cycle (a shortfall, no grant, or level 4): the cycle ends COMPLETE
with the reflected fields in the last cycle record, a HEAT SET with its number goes outward, and the lead's own unit takes
it. One that does not end it (a grant and no shortfall below level 4) sends the next level, starting from the reflected
residual less what the lead's own stage takes of it. One of another cycle or level changes nothing. -/
def Obligations.LastReflectedPassEndsCycle : Prop :=
  ∀ (e : End) (f : LineFrame) (s : State) (c : Cycle), Heard (.line e) (frameOf f .heatPass []) s → s.alive e = true →
    s.holdsPosition = true → s.consist.position = 1 → s.lead.role = true → s.consist.leadEnd = some e.other →
    acceptedOnEnd (frameOf f .heatPass []) = true → (frameOf f .heatPass []).leadward = true → s.seq.cycle = some c →
    (byteAt f.body 0 = s.seq.number → (byteAt f.body 1).toNat = c.level →
      (byteAt f.body 5 ≠ 0 ∨ byteAt f.body 4 = 0 ∨ c.level = 4) → s.roomFor (.line e) 1 →
      ∃ t g, exec (.reflectedHeatPass (.line e) f) s = .next t ∧
        t.seq = { s.seq with
          cycle := none, passTimer := none, reflected := none
          last := ⟨s.seq.number, .complete, c.level, wordAt f.body 2, byteAt f.body 4, byteAt f.body 5⟩ } ∧
        Queues (.line e) [queued g] (heard (.line e) s) t ∧ g.kind = .heatSet ∧ g.hop = 1 ∧ g.dest = 255 ∧
        g.payload = s.seq.number :: wordBytes (s.item Item.stagger) ∧ g.checkGood = true ∧
        t.heat.target = (if s.heat.cycleRec = some s.seq.number then s.heat.grant else 0) ∧
        t.heat.holdover = some (s.now + 1000 * s.itemN Item.holdover) ∧
        { t with pu1 := s.pu1, pu2 := s.pu2, end1 := s.end1, end2 := s.end2, heat := s.heat, seq := s.seq } = s) ∧
    (byteAt f.body 0 = s.seq.number → (byteAt f.body 1).toNat = c.level →
      byteAt f.body 5 = 0 → byteAt f.body 4 ≠ 0 → 1 ≤ c.level → c.level < 4 → s.roomFor (.line e) 1 →
      ∃ t g, exec (.reflectedHeatPass (.line e) f) s = .next t ∧
        t.seq = { s.seq with
          cycle := some { c with level := c.level + 1 }, passTimer := some (s.now + s.itemN Item.passTimeout)
          reflected := some ⟨wordAt f.body 2, byteAt f.body 4, byteAt f.body 5⟩ } ∧
        Queues (.line e) [queued g] (heard (.line e) s) t ∧ g.kind = .heatPass ∧ g.hop = 1 ∧ g.src = 1 ∧ g.dest = 255 ∧
        g.leadward = false ∧ g.checkGood = true ∧ byteAt g.payload 0 = s.seq.number ∧
        byteAt g.payload 1 = byteOf (c.level + 1) ∧ byteAt g.payload 6 = byteOf c.demand ∧
        (t.heat.grant = s.heat.grant → wordAt g.payload 2 = wordAt f.body 2 ∧ byteAt g.payload 4 = 0) ∧
        (t.heat.grant ≠ s.heat.grant → t.heat.grant = c.level + 1 ∧ byteAt g.payload 4 = 1 ∧
          (wordAt g.payload 2).toNat + s.scaledCurrent (c.level + 1) = (wordAt f.body 2).toNat) ∧
        { t with pu1 := s.pu1, pu2 := s.pu2, end1 := s.end1, end2 := s.end2,
                 heat := { t.heat with grant := s.heat.grant }, seq := s.seq } = s) ∧
    (byteAt f.body 0 ≠ s.seq.number ∨ (byteAt f.body 1).toNat ≠ c.level →
      exec (.reflectedHeatPass (.line e) f) s = .next (heard (.line e) s))

/-- The heating period timer restarts at its expiry; with a cycle in flight it starts none, and with none in flight at a lead
with a neighbour the next cycle begins at level 1 with B0 and D taken. The pass timer's expiry ends the cycle in flight
with TIMEOUT and the fields of the level before, and changes no target. -/
def Obligations.CyclesStartAndTimeOut : Prop :=
  (∀ (s : State) (d : Nat) (c : Cycle), s.supplyLow = false → s.atRest → s.seq.periodTimer = some d →
    s.seq.cycle = some c →
    exec .heatingPeriodExpiry s = .next { s with now := max s.now d, seq := { s.seq with
      periodTimer := some (max s.now d + 1000 * s.seq.period) } }) ∧
  (∀ (s : State) (d : Nat) (e : End), s.supplyLow = false → s.atRest → s.seq.periodTimer = some d →
    s.seq.cycle = none → s.holdsPosition = true → s.consist.leadEnd = some e.other → s.alive e = true →
    s.roomFor (.line e) 1 →
    ∃ t g, exec .heatingPeriodExpiry s = .next t ∧ t.seq = { s.seq with
        periodTimer := some (max s.now d + 1000 * s.seq.period), number := s.seq.number + 1, reflected := none,
        cycle := some ⟨1, s.seq.budget, s.seq.demand⟩,
        passTimer := some (max s.now d + s.itemN Item.passTimeout) } ∧
      Queues (.line e) [queued g] s t ∧ g.kind = .heatPass ∧ byteAt g.payload 0 = s.seq.number + 1 ∧
      byteAt g.payload 1 = 1 ∧ byteAt g.payload 6 = byteOf s.seq.demand ∧ g.hop = 1 ∧ g.checkGood = true ∧
      t.heat.target = s.heat.target ∧ t.heat.level = s.heat.level ∧ t.doors = s.doors ∧ t.consist = s.consist) ∧
  (∀ (s : State) (d : Nat) (c : Cycle), s.supplyLow = false → s.atRest → s.seq.passTimer = some d →
    s.seq.cycle = some c →
    exec .passTimeout s = .next { s with now := max s.now d, seq := { s.seq with
      cycle := none, passTimer := none, reflected := none
      last := ⟨s.seq.number, .timeout, c.level, s.seq.reflected.getD ⟨0, 0, 0⟩⟩ } })

/-! ### Local lines (file 10) -/

/-- A raw edge starts or restarts the input's stability timer for the filter time of its class; its expiry stops it. A raw
level equal to the filtered one then changes nothing more, and one that differs becomes the filtered level: a coupling sense
raises its change; ZSP lost puts every RELEASED channel into WARNING and raises AUTO_CLOSE; an isolate input that becomes
active puts its channel, out of the settling hold, into ISOLATED, and one that becomes inactive takes an isolated channel
with leaves out of it (a leaf that has not settled counting as open, which is the model's reading, log 24). A leaf that
opens puts a LOCKED channel into FAULT, and the last leaf to close a CLOSING one into LOCKED. Outside the settling hold a
leaf's first settling opens or closes it in the same way (log 24). A settling hold ends in the event in which the last of
the channel's inputs settles. KEY becoming active, its first settling included, starts a roll call with auto-start on, and
gives no role with it off. A first settling of a coupling sense is no change, and TH raises nothing. -/
def Obligations.InputsAreFiltered : Prop :=
  (∀ (i : Input) (a : Bool) (s : State), s.supplyLow = false →
    exec (.rawEdge i a) s = .next (if a = (s.input i).raw then s else
      s.setInput i { s.input i with raw := a, timer := some (s.now + s.itemN (Item.filter i)) })) ∧
  (∀ (i : Input) (s : State) (d : Nat), s.supplyLow = false → s.atRest → (s.input i).timer = some d →
    (∃ t, exec (.stabilityTimerExpiry i) s = .next t ∧
      t.input i = ⟨(s.input i).raw, some (s.input i).raw, none⟩) ∧
    ((s.input i).level = some (s.input i).raw →
      exec (.stabilityTimerExpiry i) s =
        .next ({ s with now := max s.now d }.setInput i { s.input i with timer := none }))) ∧
  (∀ (e : End) (s : State) (d : Nat) (b : Bool), s.supplyLow = false → s.atRest →
    (s.input (.cpl e)).timer = some d → (s.input (.cpl e)).level = some (!b) → (s.input (.cpl e)).raw = b →
    ∃ t, exec (.stabilityTimerExpiry (.cpl e)) s = .next t ∧ t.present (cplChange e) = true ∧
      t.consist.state = s.consist.state ∧ t.doors = s.doors ∧ t.heat = s.heat ∧ (∀ p, t.port p = s.port p)) ∧
  (∀ (s : State) (d : Nat), s.supplyLow = false → s.atRest → (s.input .zsp).timer = some d →
    (s.input .zsp).level = some true → (s.input .zsp).raw = false →
    ∃ t, exec (.stabilityTimerExpiry .zsp) s = .next t ∧
      (∀ c, t.channel c = (if (s.channel c).state = .released then
        { s.channel c with state := .warning, timer := some (max s.now d + s.itemN Item.warnTime) }
        else s.channel c)) ∧
      ((∃ c, (s.channel c).state = .released) → t.present .autoClose = true) ∧
      t.consist = s.consist ∧ (∀ p, t.port p = s.port p)) ∧
  (∀ (c : Side) (s : State) (d : Nat), s.supplyLow = false → s.atRest → (s.input (.iso c)).timer = some d →
    (s.input (.iso c)).level = some false → (s.input (.iso c)).raw = true → (s.channel c).hold = false →
    ∃ t, exec (.stabilityTimerExpiry (.iso c)) s = .next t ∧
      t.channel c = { s.channel c with state := .isolated, hold := false, timer := none, retries := 0 } ∧
      (∀ c', c' ≠ c → t.channel c' = s.channel c') ∧ t.output (.release c) = false ∧ t.output (.close c) = false ∧
      t.events = s.events ∧ t.consist = s.consist ∧ (∀ p, t.port p = s.port p)) ∧
  (∀ (c : Side) (s : State) (d : Nat), s.supplyLow = false → s.atRest → (s.input (.iso c)).timer = some d →
    (s.input (.iso c)).level = some true → (s.input (.iso c)).raw = false →
    ∃ t, exec (.stabilityTimerExpiry (.iso c)) s = .next t ∧ ChannelBecomes c
      (if (s.channel c).state = .isolated ∧ s.leafCount c ≠ 0 then returnedChannel c s else s.channel c) s t) ∧
  (∀ (c : Side) (n : Fin 4) (s : State) (d : Nat), s.supplyLow = false → s.atRest →
    (s.input (.leaf c n)).timer = some d → (s.input (.leaf c n)).raw = false →
    ((s.input (.leaf c n)).level = some true ∨ (s.input (.leaf c n)).level = none ∧ (s.channel c).hold = false) →
    ∃ t, exec (.stabilityTimerExpiry (.leaf c n)) s = .next t ∧ ChannelBecomes c
      (if n.val < s.leafCount c ∧ (s.channel c).state = .locked then (s.channel c).inFault .leafOpened
       else s.channel c) s t) ∧
  (∀ (c : Side) (n : Fin 4) (s : State) (d : Nat), s.supplyLow = false → s.atRest →
    (s.input (.leaf c n)).timer = some d → (s.input (.leaf c n)).raw = true →
    ((s.input (.leaf c n)).level = some false ∨ (s.input (.leaf c n)).level = none ∧ (s.channel c).hold = false) →
    ∃ t, exec (.stabilityTimerExpiry (.leaf c n)) s = .next t ∧ ChannelBecomes c
      (if n.val < s.leafCount c ∧ (s.channel c).state = .closing ∧
          (∀ m : Fin 4, m ≠ n → m.val < s.leafCount c → s.active (.leaf c m) = true) then (s.channel c).inLocked
       else s.channel c) s t) ∧
  (∀ (c : Side) (i : Input) (s : State) (d : Nat), s.supplyLow = false → s.atRest →
    (i = .iso c ∨ ∃ n, i = .leaf c n) → (s.input i).timer = some d → (s.input i).level = none →
    (s.channel c).hold = true →
    ∃ t, exec (.stabilityTimerExpiry i) s = .next t ∧ ChannelBecomes c
      (if t.settled (.iso c) = true ∧ (∀ m : Fin 4, m.val < s.leafCount c → t.settled (.leaf c m) = true) then
        heldChannel c (s.setInput i ⟨(s.input i).raw, some (s.input i).raw, none⟩)
       else s.channel c) s t) ∧
  (∀ (s : State) (d : Nat), s.supplyLow = false → s.atRest → (s.input .key).timer = some d →
    (s.input .key).level ≠ some true → (s.input .key).raw = true →
    (∀ e, s.item Item.autoStart = 1 → s.lead.role = false → s.lead.state ≠ .calling → s.alive e = true →
      s.alive e.other = false → s.roomFor (.line e) 1 → s.roomFor .cab 1 →
      ∃ t, exec (.stabilityTimerExpiry .key) s = .next t ∧ RollCallStarted e (max s.now d) s t ∧ StatusSent t s t) ∧
    (s.item Item.autoStart ≠ 1 →
      exec (.stabilityTimerExpiry .key) s =
        .next ({ s with now := max s.now d }.setInput .key ⟨true, some true, none⟩))) ∧
  (∀ (e : End) (s : State) (d : Nat), s.supplyLow = false → s.atRest → (s.input (.cpl e)).timer = some d →
    (s.input (.cpl e)).level = none →
    ∃ t, exec (.stabilityTimerExpiry (.cpl e)) s = .next t ∧ t.present (cplChange e) = s.present (cplChange e)) ∧
  (∀ (s : State) (d : Nat), s.supplyLow = false → s.atRest → (s.input .th).timer = some d →
    ∃ t, exec (.stabilityTimerExpiry .th) s = .next t ∧ t.events = s.events ∧ t.doors = s.doors ∧
      t.consist = s.consist ∧ t.lead = s.lead ∧ t.heat.target = s.heat.target ∧ (∀ p, t.port p = s.port p))

/-- The filtered KEY of a lead becomes inactive: the role is lost, the lead machine is in STANDBY with its reason kept, its
window and send list gone, surveys and cycles stopped, and one last LEAD STATUS is offered. A node in PLACED or STALE
keeps its place and starts its lead-loss timer. -/
def Obligations.KeyLossEndsTheLead : Prop :=
  ∀ (s : State) (d : Nat), s.supplyLow = false → s.atRest → (s.input .key).timer = some d →
    (s.input .key).level = some true → (s.input .key).raw = false → s.lead.role = true → s.roomFor .cab 1 →
    ∃ t g, exec (.stabilityTimerExpiry .key) s = .next t ∧
      t.lead = ⟨false, .standby, s.lead.reason, s.lead.conflictId, 1, 1, none, []⟩ ∧ t.survey.period = none ∧
      t.survey.outstanding = none ∧ t.seq.cycle = none ∧ t.seq.periodTimer = none ∧ t.seq.passTimer = none ∧
      (∀ c, s.seq.cycle = some c → t.seq.last =
        ⟨s.seq.number, .abandoned, c.level, s.seq.reflected.getD ⟨0, 0, 0⟩⟩) ∧
      Queues .cab [queued g] s t ∧ g.kind = .leadStatus ∧ byteAt g.payload 0 = 0 ∧ g.checkGood = true ∧
      (s.placedOrStale = true →
        t.consist = { s.consist with leadLoss := some (max s.now d + s.itemN Item.leadLoss) }) ∧
      (s.consist.state = .placing → t.consist =
        { s.consist with placing := some (max s.now d + 3 * s.itemN Item.callWindow) }) ∧
      (s.consist.state = .conflict → t.consist.state = .unplaced ∧ t.present .unplaced = true) ∧
      t.doors = s.doors ∧ (∀ q, q ≠ .cab → t.port q = s.port q)

/-! ### Management and resets (file 11) -/

/-- A request with destination LOCAL on the cab port is refused, with nothing changed but its REPLY: BAD_ENTRY for a code
that is none of the eleven, then BUSY while a reset is pending, then BAD_ENTRY for a payload length other than the one its
code and count need. (For WRITE TABLE of table 2 that length is reckoned with 10 bytes an entry, and for a table above 2 it
is any of 4 or more: the model's reading, log 21.) -/
def Obligations.FaultyRequestsAreRefused : Prop :=
  ∀ (i : Instr) (f : Frame) (s : State), i.arriving = some (.cab, f) → Heard .cab f s → f.kind = .request →
    f.dest = 0 → s.roomFor .cab 1 →
    (knownCode (byteAt f.payload 0) = false →
      ∃ t, exec i s = .next t ∧ OnlyReply (byteAt f.payload 0) .badEntry [] s t) ∧
    (knownCode (byteAt f.payload 0) = true → s.mgmt.state = .resetPending →
      ∃ t, exec i s = .next t ∧ OnlyReply (byteAt f.payload 0) .busy [] s t) ∧
    (knownCode (byteAt f.payload 0) = true → s.mgmt.state ≠ .resetPending → requestLength f.payload = false →
      ∃ t, exec i s = .next t ∧ OnlyReply (byteAt f.payload 0) .badEntry [] s t)

/-- The reads are answered DONE with what they name, all taken in one event, and change nothing but the reply's queue; READ
EVENTS also removes exactly the events it returns. Outside their ranges READ ITEMS is refused with BAD_ITEM, READ TABLE and
READ MAP with BAD_ENTRY. -/
def Obligations.ReadsAreAnswered : Prop :=
  ∀ (f : LineFrame) (s : State) (a n : Byte),
    (LocalRequest [1] f s → f.body = [a, n] → ∃ t, exec (.readItems .cab f) s = .next t ∧
      (if 1 ≤ n.toNat ∧ n.toNat ≤ 16 ∧ a.toNat + n.toNat ≤ 89 then
        OnlyReply 1 .done ([a, n] ++ bytesOf (s.itemValues a.toNat n.toNat)) s t
       else OnlyReply 1 .badItem [] s t)) ∧
    (LocalRequest [3, 0] f s → f.body = [a, n] → ∃ t, exec (.readOrderTable .cab f) s = .next t ∧
      (if 1 ≤ n.toNat ∧ n.toNat ≤ 5 ∧ a.toNat + n.toNat ≤ 24 then
        OnlyReply 3 .done ([0, a, n] ++ ((s.orders.list.drop a.toNat).take n.toNat).flatMap OrderEntry.bytes) s t
       else OnlyReply 3 .badEntry [] s t)) ∧
    (LocalRequest [3, 1] f s → f.body = [a, n] → ∃ t, exec (.readStageTable .cab f) s = .next t ∧
      (if 1 ≤ n.toNat ∧ n.toNat ≤ 4 ∧ a.toNat + n.toNat ≤ 4 then
        OnlyReply 3 .done ([1, a, n] ++ ((s.heat.stages.list.drop a.toNat).take n.toNat).flatMap StageEntry.bytes) s t
       else OnlyReply 3 .badEntry [] s t)) ∧
    (LocalRequest [3] f s → f.body = [2, a, n] → ∃ t, exec (.readConsistTable .cab f) s = .next t ∧
      (if 1 ≤ n.toNat ∧ n.toNat ≤ 4 ∧ a.toNat + n.toNat ≤ 32 then
        OnlyReply 3 .done ([2, a, n] ++ ((s.consist.table.list.drop a.toNat).take n.toNat).flatMap placeBytes) s t
       else OnlyReply 3 .badEntry [] s t)) ∧
    (LocalRequest [5] f s → f.body = [a, n] → ∃ t, exec (.readMap .cab f) s = .next t ∧
      (if a.toNat ≤ 15 ∧ 1 ≤ n.toNat ∧ n.toNat ≤ 16 then
        OnlyReply 5 .done ([a, n] ++ bytesOf ((List.range n.toNat).map (fun i =>
          if s.itemN (35 + (a.toNat + i) % 16) = 255 then 0
          else s.itemValue (s.itemN (35 + (a.toNat + i) % 16))))) s t
       else OnlyReply 5 .badEntry [] s t)) ∧
    (LocalRequest [6] f s → f.body = [] → ∃ t, exec (.readEvents .cab f) s = .next t ∧ t.events = 0 ∧
      OnlyReply 6 .done (eventBytes s.events) s { t with events := s.events })

/-- WRITE ITEMS is taken as a whole: BUSY while the store is STORING, and BAD_ENTRY where a value names no code or restore_v
would not stay above shed_v, with nothing stored; else every value is stored, a numeric one clamped into its range, and
answered as stored. A count or range that is out of bounds is BAD_ITEM, and one that takes in a status item READ_ONLY. A
leaf count written acts on its side's channel in the same event, a side without leaves being ISOLATED before it (for the
cause that a count of 0 leaves, log 27). A write of
the notice enables raises each condition event that it sets on and whose condition is true, and no other event. -/
def Obligations.ItemsAreWrittenWhole : Prop :=
  (∀ (n lo hi : Nat) (v : Word), itemKind n = .range lo hi →
    ∃ w, writeValue n v = some w ∧ w.toNat = max lo (min hi v.toNat)) ∧
  (∀ (f : LineFrame) (s : State) (a n : Byte) (vs : List Word), LocalRequest [2] f s →
    f.body = [a, n] ++ bytesOf vs → vs.length = n.toNat → 1 ≤ n.toNat → n.toNat ≤ 16 → a.toNat + n.toNat ≤ 51 →
    (s.mgmt.store = .storing → ∃ t, exec (.writeItems .cab f) s = .next t ∧ OnlyReply 2 .busy [] s t) ∧
    (s.mgmt.store ≠ .storing → writeValues a.toNat vs = none →
      ∃ t, exec (.writeItems .cab f) s = .next t ∧ OnlyReply 2 .badEntry [] s t) ∧
    (∀ ws, s.mgmt.store ≠ .storing → writeValues a.toNat vs = some ws →
      (if thresholdsGood a.toNat n.toNat (s.items.setFrom a.toNat ws) = true then
        ∃ t, exec (.writeItems .cab f) s = .next t ∧ t.items = s.items.setFrom a.toNat ws ∧
          CabReply 2 .done ([a, n] ++ bytesOf ws) s t ∧ t.consist = s.consist ∧ t.lead = s.lead ∧ t.seq = s.seq ∧
          t.orders = s.orders ∧ t.inputs = s.inputs ∧ t.heat.stages = s.heat.stages ∧
          (2 < a.toNat → t.doors = s.doors) ∧
          (2 < a.toNat → a.toNat + n.toNat ≤ 33 ∨ 34 < a.toNat → t.events = s.events)
       else ∃ t, exec (.writeItems .cab f) s = .next t ∧ OnlyReply 2 .badEntry [] s t))) ∧
  (∀ (f : LineFrame) (s : State) (a n : Byte) (vs : List Word), LocalRequest [2] f s →
    f.body = [a, n] ++ bytesOf vs → vs.length = n.toNat → s.mgmt.store ≠ .storing →
    (n = 0 ∨ 16 < n.toNat ∨ 89 < a.toNat + n.toNat →
      ∃ t, exec (.writeItems .cab f) s = .next t ∧ OnlyReply 2 .badItem [] s t) ∧
    (1 ≤ n.toNat → n.toNat ≤ 16 → 51 < a.toNat + n.toNat → a.toNat + n.toNat ≤ 89 →
      ∃ t, exec (.writeItems .cab f) s = .next t ∧ OnlyReply 2 .readOnly [] s t)) ∧
  (∀ (f : LineFrame) (s : State) (c : Side) (v : Word), LocalRequest [2] f s → s.mgmt.store ≠ .storing → s.leafInv →
    f.body = [byteOf (Item.leafCount c), 1] ++ wordBytes v →
    ∃ t, exec (.writeItems .cab f) s = .next t ∧
      t.items = s.items.set (Item.leafCount c) (wordItem (min 4 v.toNat)) ∧
      ChannelBecomes c
        (if min 4 v.toNat = 0 then
          { (s.channel c).inIsolated with cause := if (s.channel c).hold then .none else (s.channel c).cause }
         else if s.leafCount c = 0 then
          (if { s with items := t.items }.channelSettled c = false then ⟨.fault, true, none, 0, .settling⟩
           else if s.active (.iso c) = true then s.channel c
           else returnedChannel c { s with items := t.items })
         else if s.leafCount c = min 4 v.toNat then s.channel c
         else if (s.channel c).hold = true then
          (if { s with items := t.items }.channelSettled c = true then heldChannel c { s with items := t.items }
           else s.channel c)
         else if (s.channel c).state = .locked ∧ { s with items := t.items }.leafOpen c = true then
          (s.channel c).inFault .leafOpened
         else if (s.channel c).state = .closing ∧ { s with items := t.items }.allClosed c = true then
          (s.channel c).inLocked
         else s.channel c) s t) ∧
  (∀ (f : LineFrame) (s : State) (high : Bool) (v : Word), LocalRequest [2] f s → s.mgmt.store ≠ .storing →
    f.body = [if high then 34 else 33, 1] ++ wordBytes v →
    ∃ t, exec (.writeItems .cab f) s = .next t ∧
      t.items = s.items.set (if high then 34 else 33) (if high then v &&& 0x000F#16 else v) ∧
      (∀ ev, t.present ev = (s.present ev || (s.condition ev &&
        (if high then decide (16 ≤ eventBit ev) && v.getLsbD (eventBit ev - 16)
         else decide (eventBit ev < 16) && v.getLsbD (eventBit ev))))) ∧
      t.doors = s.doors ∧ t.heat = s.heat ∧ t.consist = s.consist)

/-- WRITE TABLE is taken as a whole: entries of the order table that pass the content tests, and entries that leave the
enabled stages of the stage table a prefix, are stored from the start index on and answered DONE; otherwise BAD_ENTRY, and
no entry changes. While the store is STORING both are BUSY. -/
def Obligations.TablesAreWrittenWhole : Prop :=
  ∀ (f : LineFrame) (s : State) (a n : Byte) (l : List Byte),
    (LocalRequest [4, 0] f s → f.body = [a, n] ++ l → l.length = 8 * n.toNat → 1 ≤ n.toNat → n.toNat ≤ 5 →
      a.toNat + n.toNat ≤ 24 → ∃ t, exec (.writeOrderTable .cab f) s = .next t ∧
      (if s.mgmt.store = .storing then OnlyReply 4 .busy [] s t
       else match OrderEntry.listOf n.toNat l with
        | none => OnlyReply 4 .badEntry [] s t
        | some es => t.orders = s.orders.setFrom a.toNat es ∧
            OnlyReply 4 .done [0, a, n] s { t with orders := s.orders })) ∧
    (LocalRequest [4] f s → f.body = [1, a, n] ++ l → l.length = 2 * n.toNat → 1 ≤ n.toNat → n.toNat ≤ 4 →
      a.toNat + n.toNat ≤ 4 → ∃ t, exec (.writeStageTable .cab f) s = .next t ∧
      (if s.mgmt.store = .storing then OnlyReply 4 .busy [] s t
       else if stagesGood (s.heat.stages.setFrom a.toNat (StageEntry.listOf n.toNat l)) = true then
        t.heat.stages = s.heat.stages.setFrom a.toNat (StageEntry.listOf n.toNat l) ∧
          t.heat.level = min s.heat.level t.teff ∧ t.heat.target = s.heat.target ∧
          OnlyReply 4 .done [1, a, n] s { t with heat := s.heat }
       else OnlyReply 4 .badEntry [] s t))

/-- A STORE taken outside STORING starts the store for 80 ms with the working configuration as it stands and owes its REPLY;
one taken in STORING is refused with BUSY. At the timer's expiry the image is that configuration, the store VALID,
STORE_DONE raised, and the REPLY goes to the port and with the source kept, a pending reset staying pending. -/
def Obligations.StoresTakeEightyMilliseconds : Prop :=
  (∀ (f : LineFrame) (s : State), LocalRequest [7] f s → f.body = [] →
    (s.mgmt.store = .storing → ∃ t, exec (.store .cab f) s = .next t ∧ OnlyReply 7 .busy [] s t) ∧
    (s.mgmt.store ≠ .storing → exec (.store .cab f) s = .next { heard .cab s with mgmt := { s.mgmt with
      state := .storePending, owed := some ⟨.cab, s.consist.position⟩, store := .storing
      storeTimer := some (s.now + 80), storing := some ⟨s.items, s.orders, s.heat.stages⟩ } })) ∧
  (∀ (s : State) (d : Nat) (o : OwedReply) (im : Image), s.supplyLow = false → s.mgmt.storeTimer = some d →
    s.mgmt.owed = some o → s.mgmt.storing = some im → s.roomFor o.port 1 →
    ∃ t, exec .storeTimerExpiry s = .next t ∧ t.mgmt.image = some im ∧ t.mgmt.store = .valid ∧
      t.mgmt.storeTimer = none ∧ t.mgmt.owed = none ∧
      t.mgmt.state = (if s.mgmt.state = .resetPending then .resetPending else .ready) ∧
      t.present .storeDone = true ∧ Queues o.port [queued (replyFrame o.source 7 .done [])] s t ∧
      (∀ q, q ≠ o.port → t.port q = s.port q) ∧
      { t with now := s.now, events := s.events, mgmt := s.mgmt, pu1 := s.pu1, pu2 := s.pu2, puC := s.puC } = s)

/-- A NODE RESET is answered DONE and pends; the REQUESTED reset takes effect as that REPLY leaves its queue, sent or
abandoned (in the same event: log 15), and at once where the queue is full. REQUESTED_RESET performs a pending reset whether
or not the REPLY still waits in its queue: that is the model's choice (log 38). -/
def Obligations.NodeResetFollowsItsReply : Prop :=
  (∀ (f : LineFrame) (s : State), Heard .cab (frameOf f .request [8]) s → f.dest = 0 → f.body = [] →
    s.mgmt.state ≠ .resetPending →
    (s.roomFor .cab 1 → ∃ t, exec (.nodeReset .cab f) s = .next t ∧
      Queues .cab [⟨replyFrame s.consist.position 8 .done [], defaultRate, true⟩] (heard .cab s) t ∧
      OnlyPorts { heard .cab s with mgmt := { s.mgmt with state := .resetPending } } t) ∧
    (¬ s.roomFor .cab 1 → ∃ t, exec (.nodeReset .cab f) s = .next t ∧ AfterReset .requested s t ∧
      TimersFromEnd t)) ∧
  (∀ (p : Port) (s : State) (q : Queued) (qs : List Queued) (r : LineRate), s.supplyLow = false →
    s.mgmt.state = .resetPending → (s.port p).queue = q :: qs → (s.port p).sending = some ⟨r, none⟩ →
    q.resetReply = true →
    (∃ t, exec (.transmitComplete p) s = .next t ∧ AfterReset .requested s t ∧ TimersFromEnd t) ∧
    (3 ≤ (s.port p).attempt → ∃ t, exec (.collision p) s = .next t ∧ AfterReset .requested s t ∧
      TimersFromEnd t)) ∧
  (∀ (s : State), s.supplyLow = false → s.mgmt.state = .resetPending →
    ∃ t, exec .requestedReset s = .next t ∧ AfterReset .requested s t ∧ TimersFromEnd t)

/-- The lead-control requests on the cab port with the KEY active. START ROLL CALL at a node with one neighbour: the role held,
CALLING, PLACING at position 1 with the far end leadward, a CALL with attempt 1 outward and its window running, and DONE
ahead of the LEAD STATUS on the cab port (that the REPLY goes first and carries the position held before the request is the
model's reading, log 20). STOP in CALLING fails the roll call with STOPPED. HEAT SETUP takes the setup,
clamped. With the KEY inactive or not settled each is refused with CAB_INACTIVE. -/
def Obligations.LeadControlIsObeyed : Prop :=
  (∀ (i : Instr) (f : LineFrame) (s : State), s.active .key = false →
    (i = .startRollCall .cab f ∧ LocalRequest [9] f s ∧ f.body = [] →
      ∃ t, exec i s = .next t ∧ OnlyReply 9 .cabInactive [] s t) ∧
    (i = .stop .cab f ∧ LocalRequest [10] f s ∧ f.body = [] →
      ∃ t, exec i s = .next t ∧ OnlyReply 10 .cabInactive [] s t) ∧
    (i = .heatSetup .cab f ∧ LocalRequest [11] f s ∧ f.body.length = 5 →
      ∃ t, exec i s = .next t ∧ OnlyReply 11 .cabInactive [] s t)) ∧
  (∀ (f : LineFrame) (s : State) (e : End), LocalRequest [9] f s → f.body = [] → s.active .key = true →
    s.alive e = true → s.alive e.other = false → s.lead.state ≠ .calling → s.roomFor .cab 2 →
    s.roomFor (.line e) 1 →
    ∃ t h, exec (.startRollCall .cab f) s = .next t ∧ RollCallStarted e s.now s t ∧
      Queues .cab [queued (replyFrame s.consist.position 9 .done []), queued h] (heard .cab s) t ∧
      h.kind = .leadStatus ∧ h.payload = leadStatusPayload t ∧ byteAt h.payload 0 = 1) ∧
  (∀ (f : LineFrame) (s : State), LocalRequest [10] f s → f.body = [] → s.active .key = true → s.lead.role = true →
    s.lead.state = .calling → s.consist.state = .placing → s.roomFor .cab 2 →
    ∃ t h, exec (.stop .cab f) s = .next t ∧
      t.lead = { s.lead with state := .failed, reason := .stopped, window := none, sendList := [] } ∧
      t.consist = { s.consist with placing := some (s.now + 3 * s.itemN Item.callWindow) } ∧
      Queues .cab [queued (replyFrame s.consist.position 10 .done []), queued h] (heard .cab s) t ∧
      h.kind = .leadStatus ∧ h.payload.take 2 = [5, 6] ∧
      { t with puC := s.puC, cab := s.cab, lead := s.lead, consist := s.consist } = s) ∧
  (∀ (f : LineFrame) (s : State) (b p : Word) (d : Byte), LocalRequest [11] f s →
    f.body = wordBytes b ++ [d] ++ wordBytes p → s.active .key = true → s.lead.role = true →
    ∃ t, exec (.heatSetup .cab f) s = .next t ∧
      t.seq = { s.seq with budget := min 4000 b.toNat, demand := min 4 d.toNat,
                           period := max 5 (min 300 p.toNat) } ∧
      OnlyReply 11 .done [] s { t with seq := s.seq })

/-- A SUPPLY reset begins with every output off and lasts until the supply is above its upper threshold; then what counts its
time from the end of the reset starts. Until then every other command leaves it in force, with every output off, and changes
nothing but, for a RAW_EDGE, the level at the pin, and, for a further fall of the supply, what a reset makes afresh (that
the ports hear nothing meanwhile is the model's reading, log 14). -/
def Obligations.SupplyResetLastsUntilSupplyReturns : Prop :=
  (∀ s : State, ∃ t u, exec .supplyReset s = .next t ∧ t.supplyLow = true ∧ (∀ o, t.output o = false) ∧
    AfterReset .supply s t ∧ (∀ i, (t.input i).timer = none) ∧ exec .supplyAboveUpperThreshold t = .next u ∧
    u.supplyLow = false ∧ AfterReset .supply s u ∧ TimersFromEnd u ∧
    (∀ c, u.output (.release c) = false ∧ u.output (.close c) = false) ∧ (∀ n, u.output (.heat n) = false)) ∧
  (∀ (c : Instr) (s : State), s.supplyLow = true → c ≠ .supplyAboveUpperThreshold →
    ∃ t, exec c s = .next t ∧ t.supplyLow = true ∧ (∀ o, t.output o = false) ∧
      (∀ i a, c = .rawEdge i a → t = s.setInput i { s.input i with raw := a }) ∧
      (c ≠ .supplyReset → (∀ i a, c ≠ .rawEdge i a) → t = s))

/-! ### Invariants -/

/-- Every step leaves the tone on demand, the energized level at or below the effective target, and no raise schedule without
something to raise. -/
def Obligations.StepsKeepRest : Prop := ∀ s t : State, s.atRest → step s = .next t → t.atRest

/-- Every step keeps every transmit queue at 4 frames or fewer, with every frame in them, and every frame the lead still has to
send, carrying the check of its own content. -/
def Obligations.StepsKeepQueues : Prop := ∀ s t : State, s.queueInv → step s = .next t → t.queueInv

/-- Every step keeps released doors at standstill and their isolate inputs inactive, and keeps the channel of a side without
leaves ISOLATED. -/
def Obligations.StepsKeepReleasedDoorsAtStandstill : Prop :=
  (∀ s t : State, s.doorInv → step s = .next t → t.doorInv) ∧
  (∀ s t : State, s.doorInv → s.leafInv → step s = .next t → t.leafInv)

/-- Every step keeps the position, leadward end and table of the node with its consist state, and what the lead machine runs
with its lead state. -/
def Obligations.StepsKeepPlaceAndLead : Prop :=
  ∀ s t : State, s.placeInv → s.leadInv → step s = .next t → t.placeInv ∧ t.leadInv
end

