-- ==== Sys2Proof/Laws/State.lean ====
section
/-! SUPPORT. What each update of the state leaves alone, field by field, and what a field reads after its own update. -/

namespace Sys2Proof.Machine

section setPort

variable (s : State) (p : Port) (u : PortUnit)

@[simp] theorem setPort_pending : (s.setPort p u).pending = s.pending := by rcases p with (_ | _) | _ <;> rfl
@[simp] theorem setPort_now : (s.setPort p u).now = s.now := by rcases p with (_ | _) | _ <;> rfl
@[simp] theorem setPort_identity : (s.setPort p u).identity = s.identity := by rcases p with (_ | _) | _ <;> rfl
@[simp] theorem setPort_supplyLow : (s.setPort p u).supplyLow = s.supplyLow := by rcases p with (_ | _) | _ <;> rfl
@[simp] theorem setPort_end1 : (s.setPort p u).end1 = s.end1 := by rcases p with (_ | _) | _ <;> rfl
@[simp] theorem setPort_end2 : (s.setPort p u).end2 = s.end2 := by rcases p with (_ | _) | _ <;> rfl
@[simp] theorem setPort_cab : (s.setPort p u).cab = s.cab := by rcases p with (_ | _) | _ <;> rfl
@[simp] theorem setPort_directionErrors : (s.setPort p u).directionErrors = s.directionErrors := by rcases p with (_ | _) | _ <;> rfl
@[simp] theorem setPort_cabRefusals : (s.setPort p u).cabRefusals = s.cabRefusals := by rcases p with (_ | _) | _ <;> rfl
@[simp] theorem setPort_consist : (s.setPort p u).consist = s.consist := by rcases p with (_ | _) | _ <;> rfl
@[simp] theorem setPort_lead : (s.setPort p u).lead = s.lead := by rcases p with (_ | _) | _ <;> rfl
@[simp] theorem setPort_survey : (s.setPort p u).survey = s.survey := by rcases p with (_ | _) | _ <;> rfl
@[simp] theorem setPort_seq : (s.setPort p u).seq = s.seq := by rcases p with (_ | _) | _ <;> rfl
@[simp] theorem setPort_orders : (s.setPort p u).orders = s.orders := by rcases p with (_ | _) | _ <;> rfl
@[simp] theorem setPort_dispatch : (s.setPort p u).dispatch = s.dispatch := by rcases p with (_ | _) | _ <;> rfl
@[simp] theorem setPort_doors : (s.setPort p u).doors = s.doors := by rcases p with (_ | _) | _ <;> rfl
@[simp] theorem setPort_heat : (s.setPort p u).heat = s.heat := by rcases p with (_ | _) | _ <;> rfl
@[simp] theorem setPort_inputs : (s.setPort p u).inputs = s.inputs := by rcases p with (_ | _) | _ <;> rfl
@[simp] theorem setPort_events : (s.setPort p u).events = s.events := by rcases p with (_ | _) | _ <;> rfl
@[simp] theorem setPort_items : (s.setPort p u).items = s.items := by rcases p with (_ | _) | _ <;> rfl
@[simp] theorem setPort_mgmt : (s.setPort p u).mgmt = s.mgmt := by rcases p with (_ | _) | _ <;> rfl
@[simp] theorem setPort_scratch : (s.setPort p u).scratch = s.scratch := by rcases p with (_ | _) | _ <;> rfl

end setPort

section setEnd

variable (s : State) (e : End) (u : EndUnit)

@[simp] theorem setEnd_pending : (s.setEnd e u).pending = s.pending := by cases e <;> rfl
@[simp] theorem setEnd_now : (s.setEnd e u).now = s.now := by cases e <;> rfl
@[simp] theorem setEnd_identity : (s.setEnd e u).identity = s.identity := by cases e <;> rfl
@[simp] theorem setEnd_supplyLow : (s.setEnd e u).supplyLow = s.supplyLow := by cases e <;> rfl
@[simp] theorem setEnd_pu1 : (s.setEnd e u).pu1 = s.pu1 := by cases e <;> rfl
@[simp] theorem setEnd_pu2 : (s.setEnd e u).pu2 = s.pu2 := by cases e <;> rfl
@[simp] theorem setEnd_puC : (s.setEnd e u).puC = s.puC := by cases e <;> rfl
@[simp] theorem setEnd_cab : (s.setEnd e u).cab = s.cab := by cases e <;> rfl
@[simp] theorem setEnd_directionErrors : (s.setEnd e u).directionErrors = s.directionErrors := by cases e <;> rfl
@[simp] theorem setEnd_cabRefusals : (s.setEnd e u).cabRefusals = s.cabRefusals := by cases e <;> rfl
@[simp] theorem setEnd_consist : (s.setEnd e u).consist = s.consist := by cases e <;> rfl
@[simp] theorem setEnd_lead : (s.setEnd e u).lead = s.lead := by cases e <;> rfl
@[simp] theorem setEnd_survey : (s.setEnd e u).survey = s.survey := by cases e <;> rfl
@[simp] theorem setEnd_seq : (s.setEnd e u).seq = s.seq := by cases e <;> rfl
@[simp] theorem setEnd_orders : (s.setEnd e u).orders = s.orders := by cases e <;> rfl
@[simp] theorem setEnd_dispatch : (s.setEnd e u).dispatch = s.dispatch := by cases e <;> rfl
@[simp] theorem setEnd_doors : (s.setEnd e u).doors = s.doors := by cases e <;> rfl
@[simp] theorem setEnd_heat : (s.setEnd e u).heat = s.heat := by cases e <;> rfl
@[simp] theorem setEnd_inputs : (s.setEnd e u).inputs = s.inputs := by cases e <;> rfl
@[simp] theorem setEnd_events : (s.setEnd e u).events = s.events := by cases e <;> rfl
@[simp] theorem setEnd_items : (s.setEnd e u).items = s.items := by cases e <;> rfl
@[simp] theorem setEnd_mgmt : (s.setEnd e u).mgmt = s.mgmt := by cases e <;> rfl
@[simp] theorem setEnd_scratch : (s.setEnd e u).scratch = s.scratch := by cases e <;> rfl

end setEnd

section setChannel

variable (s : State) (c : Side) (ch : Channel)

@[simp] theorem setChannel_pending : (s.setChannel c ch).pending = s.pending := by cases c <;> rfl
@[simp] theorem setChannel_now : (s.setChannel c ch).now = s.now := by cases c <;> rfl
@[simp] theorem setChannel_identity : (s.setChannel c ch).identity = s.identity := by cases c <;> rfl
@[simp] theorem setChannel_supplyLow : (s.setChannel c ch).supplyLow = s.supplyLow := by cases c <;> rfl
@[simp] theorem setChannel_pu1 : (s.setChannel c ch).pu1 = s.pu1 := by cases c <;> rfl
@[simp] theorem setChannel_pu2 : (s.setChannel c ch).pu2 = s.pu2 := by cases c <;> rfl
@[simp] theorem setChannel_puC : (s.setChannel c ch).puC = s.puC := by cases c <;> rfl
@[simp] theorem setChannel_end1 : (s.setChannel c ch).end1 = s.end1 := by cases c <;> rfl
@[simp] theorem setChannel_end2 : (s.setChannel c ch).end2 = s.end2 := by cases c <;> rfl
@[simp] theorem setChannel_cab : (s.setChannel c ch).cab = s.cab := by cases c <;> rfl
@[simp] theorem setChannel_directionErrors : (s.setChannel c ch).directionErrors = s.directionErrors := by cases c <;> rfl
@[simp] theorem setChannel_cabRefusals : (s.setChannel c ch).cabRefusals = s.cabRefusals := by cases c <;> rfl
@[simp] theorem setChannel_consist : (s.setChannel c ch).consist = s.consist := by cases c <;> rfl
@[simp] theorem setChannel_lead : (s.setChannel c ch).lead = s.lead := by cases c <;> rfl
@[simp] theorem setChannel_survey : (s.setChannel c ch).survey = s.survey := by cases c <;> rfl
@[simp] theorem setChannel_seq : (s.setChannel c ch).seq = s.seq := by cases c <;> rfl
@[simp] theorem setChannel_orders : (s.setChannel c ch).orders = s.orders := by cases c <;> rfl
@[simp] theorem setChannel_dispatch : (s.setChannel c ch).dispatch = s.dispatch := by cases c <;> rfl
@[simp] theorem setChannel_heat : (s.setChannel c ch).heat = s.heat := by cases c <;> rfl
@[simp] theorem setChannel_inputs : (s.setChannel c ch).inputs = s.inputs := by cases c <;> rfl
@[simp] theorem setChannel_events : (s.setChannel c ch).events = s.events := by cases c <;> rfl
@[simp] theorem setChannel_items : (s.setChannel c ch).items = s.items := by cases c <;> rfl
@[simp] theorem setChannel_mgmt : (s.setChannel c ch).mgmt = s.mgmt := by cases c <;> rfl
@[simp] theorem setChannel_scratch : (s.setChannel c ch).scratch = s.scratch := by cases c <;> rfl

end setChannel

section setComparison

variable (s : State) (e : End) (c : Comparison)

@[simp] theorem setComparison_pending : (s.setComparison e c).pending = s.pending := by cases e <;> rfl
@[simp] theorem setComparison_now : (s.setComparison e c).now = s.now := by cases e <;> rfl
@[simp] theorem setComparison_identity : (s.setComparison e c).identity = s.identity := by cases e <;> rfl
@[simp] theorem setComparison_supplyLow : (s.setComparison e c).supplyLow = s.supplyLow := by cases e <;> rfl
@[simp] theorem setComparison_pu1 : (s.setComparison e c).pu1 = s.pu1 := by cases e <;> rfl
@[simp] theorem setComparison_pu2 : (s.setComparison e c).pu2 = s.pu2 := by cases e <;> rfl
@[simp] theorem setComparison_puC : (s.setComparison e c).puC = s.puC := by cases e <;> rfl
@[simp] theorem setComparison_end1 : (s.setComparison e c).end1 = s.end1 := by cases e <;> rfl
@[simp] theorem setComparison_end2 : (s.setComparison e c).end2 = s.end2 := by cases e <;> rfl
@[simp] theorem setComparison_cab : (s.setComparison e c).cab = s.cab := by cases e <;> rfl
@[simp] theorem setComparison_directionErrors : (s.setComparison e c).directionErrors = s.directionErrors := by cases e <;> rfl
@[simp] theorem setComparison_cabRefusals : (s.setComparison e c).cabRefusals = s.cabRefusals := by cases e <;> rfl
@[simp] theorem setComparison_lead : (s.setComparison e c).lead = s.lead := by cases e <;> rfl
@[simp] theorem setComparison_survey : (s.setComparison e c).survey = s.survey := by cases e <;> rfl
@[simp] theorem setComparison_seq : (s.setComparison e c).seq = s.seq := by cases e <;> rfl
@[simp] theorem setComparison_orders : (s.setComparison e c).orders = s.orders := by cases e <;> rfl
@[simp] theorem setComparison_dispatch : (s.setComparison e c).dispatch = s.dispatch := by cases e <;> rfl
@[simp] theorem setComparison_doors : (s.setComparison e c).doors = s.doors := by cases e <;> rfl
@[simp] theorem setComparison_heat : (s.setComparison e c).heat = s.heat := by cases e <;> rfl
@[simp] theorem setComparison_inputs : (s.setComparison e c).inputs = s.inputs := by cases e <;> rfl
@[simp] theorem setComparison_events : (s.setComparison e c).events = s.events := by cases e <;> rfl
@[simp] theorem setComparison_items : (s.setComparison e c).items = s.items := by cases e <;> rfl
@[simp] theorem setComparison_mgmt : (s.setComparison e c).mgmt = s.mgmt := by cases e <;> rfl
@[simp] theorem setComparison_scratch : (s.setComparison e c).scratch = s.scratch := by cases e <;> rfl

end setComparison

section setInput

variable (s : State) (i : Input) (l : InputLine)

@[simp] theorem setInput_pending : (s.setInput i l).pending = s.pending := rfl
@[simp] theorem setInput_now : (s.setInput i l).now = s.now := rfl
@[simp] theorem setInput_identity : (s.setInput i l).identity = s.identity := rfl
@[simp] theorem setInput_supplyLow : (s.setInput i l).supplyLow = s.supplyLow := rfl
@[simp] theorem setInput_pu1 : (s.setInput i l).pu1 = s.pu1 := rfl
@[simp] theorem setInput_pu2 : (s.setInput i l).pu2 = s.pu2 := rfl
@[simp] theorem setInput_puC : (s.setInput i l).puC = s.puC := rfl
@[simp] theorem setInput_end1 : (s.setInput i l).end1 = s.end1 := rfl
@[simp] theorem setInput_end2 : (s.setInput i l).end2 = s.end2 := rfl
@[simp] theorem setInput_cab : (s.setInput i l).cab = s.cab := rfl
@[simp] theorem setInput_directionErrors : (s.setInput i l).directionErrors = s.directionErrors := rfl
@[simp] theorem setInput_cabRefusals : (s.setInput i l).cabRefusals = s.cabRefusals := rfl
@[simp] theorem setInput_consist : (s.setInput i l).consist = s.consist := rfl
@[simp] theorem setInput_lead : (s.setInput i l).lead = s.lead := rfl
@[simp] theorem setInput_survey : (s.setInput i l).survey = s.survey := rfl
@[simp] theorem setInput_seq : (s.setInput i l).seq = s.seq := rfl
@[simp] theorem setInput_orders : (s.setInput i l).orders = s.orders := rfl
@[simp] theorem setInput_dispatch : (s.setInput i l).dispatch = s.dispatch := rfl
@[simp] theorem setInput_doors : (s.setInput i l).doors = s.doors := rfl
@[simp] theorem setInput_heat : (s.setInput i l).heat = s.heat := rfl
@[simp] theorem setInput_events : (s.setInput i l).events = s.events := rfl
@[simp] theorem setInput_items : (s.setInput i l).items = s.items := rfl
@[simp] theorem setInput_mgmt : (s.setInput i l).mgmt = s.mgmt := rfl
@[simp] theorem setInput_scratch : (s.setInput i l).scratch = s.scratch := rfl

end setInput

section raise

variable (ev : Event) (s : State)

@[simp] theorem raise_pending : (raise ev s).pending = s.pending := rfl
@[simp] theorem raise_now : (raise ev s).now = s.now := rfl
@[simp] theorem raise_identity : (raise ev s).identity = s.identity := rfl
@[simp] theorem raise_supplyLow : (raise ev s).supplyLow = s.supplyLow := rfl
@[simp] theorem raise_pu1 : (raise ev s).pu1 = s.pu1 := rfl
@[simp] theorem raise_pu2 : (raise ev s).pu2 = s.pu2 := rfl
@[simp] theorem raise_puC : (raise ev s).puC = s.puC := rfl
@[simp] theorem raise_end1 : (raise ev s).end1 = s.end1 := rfl
@[simp] theorem raise_end2 : (raise ev s).end2 = s.end2 := rfl
@[simp] theorem raise_cab : (raise ev s).cab = s.cab := rfl
@[simp] theorem raise_directionErrors : (raise ev s).directionErrors = s.directionErrors := rfl
@[simp] theorem raise_cabRefusals : (raise ev s).cabRefusals = s.cabRefusals := rfl
@[simp] theorem raise_consist : (raise ev s).consist = s.consist := rfl
@[simp] theorem raise_lead : (raise ev s).lead = s.lead := rfl
@[simp] theorem raise_survey : (raise ev s).survey = s.survey := rfl
@[simp] theorem raise_seq : (raise ev s).seq = s.seq := rfl
@[simp] theorem raise_orders : (raise ev s).orders = s.orders := rfl
@[simp] theorem raise_dispatch : (raise ev s).dispatch = s.dispatch := rfl
@[simp] theorem raise_doors : (raise ev s).doors = s.doors := rfl
@[simp] theorem raise_heat : (raise ev s).heat = s.heat := rfl
@[simp] theorem raise_inputs : (raise ev s).inputs = s.inputs := rfl
@[simp] theorem raise_items : (raise ev s).items = s.items := rfl
@[simp] theorem raise_mgmt : (raise ev s).mgmt = s.mgmt := rfl
@[simp] theorem raise_scratch : (raise ev s).scratch = s.scratch := rfl

end raise

section raiseIf

variable (c : Bool) (ev : Event) (s : State)

@[simp] theorem raiseIf_pending : (raiseIf c ev s).pending = s.pending := by cases c <;> rfl
@[simp] theorem raiseIf_now : (raiseIf c ev s).now = s.now := by cases c <;> rfl
@[simp] theorem raiseIf_identity : (raiseIf c ev s).identity = s.identity := by cases c <;> rfl
@[simp] theorem raiseIf_supplyLow : (raiseIf c ev s).supplyLow = s.supplyLow := by cases c <;> rfl
@[simp] theorem raiseIf_pu1 : (raiseIf c ev s).pu1 = s.pu1 := by cases c <;> rfl
@[simp] theorem raiseIf_pu2 : (raiseIf c ev s).pu2 = s.pu2 := by cases c <;> rfl
@[simp] theorem raiseIf_puC : (raiseIf c ev s).puC = s.puC := by cases c <;> rfl
@[simp] theorem raiseIf_end1 : (raiseIf c ev s).end1 = s.end1 := by cases c <;> rfl
@[simp] theorem raiseIf_end2 : (raiseIf c ev s).end2 = s.end2 := by cases c <;> rfl
@[simp] theorem raiseIf_cab : (raiseIf c ev s).cab = s.cab := by cases c <;> rfl
@[simp] theorem raiseIf_directionErrors : (raiseIf c ev s).directionErrors = s.directionErrors := by cases c <;> rfl
@[simp] theorem raiseIf_cabRefusals : (raiseIf c ev s).cabRefusals = s.cabRefusals := by cases c <;> rfl
@[simp] theorem raiseIf_consist : (raiseIf c ev s).consist = s.consist := by cases c <;> rfl
@[simp] theorem raiseIf_lead : (raiseIf c ev s).lead = s.lead := by cases c <;> rfl
@[simp] theorem raiseIf_survey : (raiseIf c ev s).survey = s.survey := by cases c <;> rfl
@[simp] theorem raiseIf_seq : (raiseIf c ev s).seq = s.seq := by cases c <;> rfl
@[simp] theorem raiseIf_orders : (raiseIf c ev s).orders = s.orders := by cases c <;> rfl
@[simp] theorem raiseIf_dispatch : (raiseIf c ev s).dispatch = s.dispatch := by cases c <;> rfl
@[simp] theorem raiseIf_doors : (raiseIf c ev s).doors = s.doors := by cases c <;> rfl
@[simp] theorem raiseIf_heat : (raiseIf c ev s).heat = s.heat := by cases c <;> rfl
@[simp] theorem raiseIf_inputs : (raiseIf c ev s).inputs = s.inputs := by cases c <;> rfl
@[simp] theorem raiseIf_items : (raiseIf c ev s).items = s.items := by cases c <;> rfl
@[simp] theorem raiseIf_mgmt : (raiseIf c ev s).mgmt = s.mgmt := by cases c <;> rfl
@[simp] theorem raiseIf_scratch : (raiseIf c ev s).scratch = s.scratch := by cases c <;> rfl

end raiseIf

section reach

variable (s : State) (d : Nat)

@[simp] theorem reach_pending : (s.reach d).pending = s.pending := rfl
@[simp] theorem reach_identity : (s.reach d).identity = s.identity := rfl
@[simp] theorem reach_supplyLow : (s.reach d).supplyLow = s.supplyLow := rfl
@[simp] theorem reach_pu1 : (s.reach d).pu1 = s.pu1 := rfl
@[simp] theorem reach_pu2 : (s.reach d).pu2 = s.pu2 := rfl
@[simp] theorem reach_puC : (s.reach d).puC = s.puC := rfl
@[simp] theorem reach_end1 : (s.reach d).end1 = s.end1 := rfl
@[simp] theorem reach_end2 : (s.reach d).end2 = s.end2 := rfl
@[simp] theorem reach_cab : (s.reach d).cab = s.cab := rfl
@[simp] theorem reach_directionErrors : (s.reach d).directionErrors = s.directionErrors := rfl
@[simp] theorem reach_cabRefusals : (s.reach d).cabRefusals = s.cabRefusals := rfl
@[simp] theorem reach_consist : (s.reach d).consist = s.consist := rfl
@[simp] theorem reach_lead : (s.reach d).lead = s.lead := rfl
@[simp] theorem reach_survey : (s.reach d).survey = s.survey := rfl
@[simp] theorem reach_seq : (s.reach d).seq = s.seq := rfl
@[simp] theorem reach_orders : (s.reach d).orders = s.orders := rfl
@[simp] theorem reach_dispatch : (s.reach d).dispatch = s.dispatch := rfl
@[simp] theorem reach_doors : (s.reach d).doors = s.doors := rfl
@[simp] theorem reach_heat : (s.reach d).heat = s.heat := rfl
@[simp] theorem reach_inputs : (s.reach d).inputs = s.inputs := rfl
@[simp] theorem reach_events : (s.reach d).events = s.events := rfl
@[simp] theorem reach_items : (s.reach d).items = s.items := rfl
@[simp] theorem reach_mgmt : (s.reach d).mgmt = s.mgmt := rfl
@[simp] theorem reach_scratch : (s.reach d).scratch = s.scratch := rfl

end reach

section oweStatus

variable (s : State)

@[simp] theorem oweStatus_pending : (oweStatus s).pending = s.pending := rfl
@[simp] theorem oweStatus_now : (oweStatus s).now = s.now := rfl
@[simp] theorem oweStatus_identity : (oweStatus s).identity = s.identity := rfl
@[simp] theorem oweStatus_supplyLow : (oweStatus s).supplyLow = s.supplyLow := rfl
@[simp] theorem oweStatus_pu1 : (oweStatus s).pu1 = s.pu1 := rfl
@[simp] theorem oweStatus_pu2 : (oweStatus s).pu2 = s.pu2 := rfl
@[simp] theorem oweStatus_puC : (oweStatus s).puC = s.puC := rfl
@[simp] theorem oweStatus_end1 : (oweStatus s).end1 = s.end1 := rfl
@[simp] theorem oweStatus_end2 : (oweStatus s).end2 = s.end2 := rfl
@[simp] theorem oweStatus_cab : (oweStatus s).cab = s.cab := rfl
@[simp] theorem oweStatus_directionErrors : (oweStatus s).directionErrors = s.directionErrors := rfl
@[simp] theorem oweStatus_cabRefusals : (oweStatus s).cabRefusals = s.cabRefusals := rfl
@[simp] theorem oweStatus_consist : (oweStatus s).consist = s.consist := rfl
@[simp] theorem oweStatus_lead : (oweStatus s).lead = s.lead := rfl
@[simp] theorem oweStatus_survey : (oweStatus s).survey = s.survey := rfl
@[simp] theorem oweStatus_seq : (oweStatus s).seq = s.seq := rfl
@[simp] theorem oweStatus_orders : (oweStatus s).orders = s.orders := rfl
@[simp] theorem oweStatus_dispatch : (oweStatus s).dispatch = s.dispatch := rfl
@[simp] theorem oweStatus_doors : (oweStatus s).doors = s.doors := rfl
@[simp] theorem oweStatus_heat : (oweStatus s).heat = s.heat := rfl
@[simp] theorem oweStatus_inputs : (oweStatus s).inputs = s.inputs := rfl
@[simp] theorem oweStatus_events : (oweStatus s).events = s.events := rfl
@[simp] theorem oweStatus_items : (oweStatus s).items = s.items := rfl
@[simp] theorem oweStatus_mgmt : (oweStatus s).mgmt = s.mgmt := rfl

end oweStatus

section setLead

variable (st : LeadState) (r : Reason) (s : State)

@[simp] theorem setLead_pending : (setLead st r s).pending = s.pending := rfl
@[simp] theorem setLead_now : (setLead st r s).now = s.now := rfl
@[simp] theorem setLead_identity : (setLead st r s).identity = s.identity := rfl
@[simp] theorem setLead_supplyLow : (setLead st r s).supplyLow = s.supplyLow := rfl
@[simp] theorem setLead_pu1 : (setLead st r s).pu1 = s.pu1 := rfl
@[simp] theorem setLead_pu2 : (setLead st r s).pu2 = s.pu2 := rfl
@[simp] theorem setLead_puC : (setLead st r s).puC = s.puC := rfl
@[simp] theorem setLead_end1 : (setLead st r s).end1 = s.end1 := rfl
@[simp] theorem setLead_end2 : (setLead st r s).end2 = s.end2 := rfl
@[simp] theorem setLead_cab : (setLead st r s).cab = s.cab := rfl
@[simp] theorem setLead_directionErrors : (setLead st r s).directionErrors = s.directionErrors := rfl
@[simp] theorem setLead_cabRefusals : (setLead st r s).cabRefusals = s.cabRefusals := rfl
@[simp] theorem setLead_consist : (setLead st r s).consist = s.consist := rfl
@[simp] theorem setLead_survey : (setLead st r s).survey = s.survey := rfl
@[simp] theorem setLead_seq : (setLead st r s).seq = s.seq := rfl
@[simp] theorem setLead_orders : (setLead st r s).orders = s.orders := rfl
@[simp] theorem setLead_dispatch : (setLead st r s).dispatch = s.dispatch := rfl
@[simp] theorem setLead_doors : (setLead st r s).doors = s.doors := rfl
@[simp] theorem setLead_heat : (setLead st r s).heat = s.heat := rfl
@[simp] theorem setLead_inputs : (setLead st r s).inputs = s.inputs := rfl
@[simp] theorem setLead_events : (setLead st r s).events = s.events := rfl
@[simp] theorem setLead_items : (setLead st r s).items = s.items := rfl
@[simp] theorem setLead_mgmt : (setLead st r s).mgmt = s.mgmt := rfl

end setLead

/-! ### A part reads after its own update -/

@[simp] theorem port_setPort (s : State) (p : Port) (u : PortUnit) : (s.setPort p u).port p = u := by
  rcases p with (_ | _) | _ <;> rfl

/-- Another port's unit is not touched. -/
theorem port_setPort_ne (s : State) {p q : Port} (u : PortUnit) (h : q ≠ p) : (s.setPort p u).port q = s.port q := by
  rcases p with (_ | _) | _ <;> rcases q with (_ | _) | _ <;> first | rfl | exact absurd rfl h

@[simp] theorem setPort_setPort (s : State) (p : Port) (u v : PortUnit) :
    (s.setPort p u).setPort p v = s.setPort p v := by
  rcases p with (_ | _) | _ <;> rfl

@[simp] theorem setPort_port (s : State) (p : Port) : s.setPort p (s.port p) = s := by
  rcases p with (_ | _) | _ <;> rfl

@[simp] theorem endUnit_setEnd (s : State) (e : End) (u : EndUnit) : (s.setEnd e u).endUnit e = u := by
  cases e <;> rfl

/-- The other end's unit is not touched. -/
theorem endUnit_setEnd_ne (s : State) {e f : End} (u : EndUnit) (h : f ≠ e) :
    (s.setEnd e u).endUnit f = s.endUnit f := by
  cases e <;> cases f <;> first | rfl | exact absurd rfl h

@[simp] theorem channel_setChannel (s : State) (c : Side) (ch : Channel) : (s.setChannel c ch).channel c = ch := by
  cases c <;> rfl

/-- The other channel is not touched. -/
theorem channel_setChannel_ne (s : State) {c d : Side} (ch : Channel) (h : d ≠ c) :
    (s.setChannel c ch).channel d = s.channel d := by
  cases c <;> cases d <;> first | rfl | exact absurd rfl h

@[simp] theorem comparison_setComparison (s : State) (e : End) (c : Comparison) :
    (s.setComparison e c).comparison e = c := by
  cases e <;> rfl

/-! ### Views of the state over the updates of other parts -/

@[simp] theorem endUnit_setPort (s : State) (p : Port) (u : PortUnit) (e : End) :
    (s.setPort p u).endUnit e = s.endUnit e := by cases e <;> simp [State.endUnit]
@[simp] theorem alive_setPort (s : State) (p : Port) (u : PortUnit) (e : End) :
    (s.setPort p u).alive e = s.alive e := by simp [State.alive]
@[simp] theorem port_setEnd (s : State) (e : End) (u : EndUnit) (p : Port) : (s.setEnd e u).port p = s.port p := by
  rcases p with (_ | _) | _ <;> simp [State.port]
@[simp] theorem port_raise (ev : Event) (s : State) (p : Port) : (raise ev s).port p = s.port p := by
  rcases p with (_ | _) | _ <;> rfl
@[simp] theorem port_raiseIf (b : Bool) (ev : Event) (s : State) (p : Port) : (raiseIf b ev s).port p = s.port p := by
  cases b <;> rcases p with (_ | _) | _ <;> rfl
@[simp] theorem endUnit_raise (ev : Event) (s : State) (e : End) : (raise ev s).endUnit e = s.endUnit e := by
  cases e <;> rfl
@[simp] theorem channel_setPort (s : State) (p : Port) (u : PortUnit) (c : Side) :
    (s.setPort p u).channel c = s.channel c := by cases c <;> simp [State.channel]
@[simp] theorem channel_raise (ev : Event) (s : State) (c : Side) : (raise ev s).channel c = s.channel c := by
  cases c <;> rfl
@[simp] theorem input_setPort (s : State) (p : Port) (u : PortUnit) (i : Input) :
    (s.setPort p u).input i = s.input i := by simp [State.input]
@[simp] theorem input_raise (ev : Event) (s : State) (i : Input) : (raise ev s).input i = s.input i := rfl

/-- What is raised is present (R175). -/
@[simp] theorem present_raise (ev : Event) (s : State) : (raise ev s).present ev = true := by
  cases ev <;> simp [State.present, raise, eventBit]

/-- What was present stays present (R175). -/
theorem present_raise_of (ev ev' : Event) (s : State) (h : s.present ev' = true) : (raise ev s).present ev' = true := by
  simp only [State.present, raise, BitVec.getLsbD_or] at *
  simp [h]

end Sys2Proof.Machine
end

