-- ==== Sys2Proof/Laws/Events.lean ====
section
/-! SUPPORT. What the end of an event does to a state: nothing but the scratch fields, where doors, heating, inputs and items
are as they were at the start of an event taken at rest; and that every settled event leaves a state at rest. -/

namespace Sys2Proof.Machine

/-! ### What the effective target and the tone demand read -/

/-- The effective target reads doors, heating, inputs and items only (R144, R146). -/
theorem teff_congr {s t : State} (hd : t.doors = s.doors) (hh : t.heat = s.heat) (hi : t.inputs = s.inputs)
    (hm : t.items = s.items) : t.teff = s.teff := by
  unfold State.teff State.ceiling State.enabledStages State.capTh State.capDoor State.capSup State.doorsSecured
    State.secured State.channel State.inactive State.input State.itemN State.item
  rw [hd, hh, hi, hm]

/-- The tone demand reads the doors only (R124). -/
theorem toneDemand_congr {s t : State} (hd : t.doors = s.doors) : t.toneDemand = s.toneDemand := by
  unfold State.toneDemand; rw [hd]

@[simp] theorem begin_scratch (s : State) : (begin s).scratch = ⟨s.teff, false, none⟩ := rfl

/-! ### The parts of the end of an event -/

/-- A tone that agrees with its demand is left alone (R124). -/
theorem settleTone_of {s : State} (h : s.doors.tone.isSome = s.toneDemand) : settleTone s = s := by
  unfold settleTone
  cases hd : s.toneDemand <;> cases ht : s.doors.tone <;> simp_all

/-- An energizer at rest is left alone by an event that leaves t_eff unchanged (R146, R150). -/
theorem settleHeat_of {s : State} (h1 : s.heat.level ≤ s.teff) (h2 : s.heat.raise.isSome = true → s.heat.level < s.teff)
    (h3 : s.scratch.teff = s.teff) : settleHeat s = s := by
  have e : { s with scratch := { s.scratch with teff := s.teff } } = s := by rw [← h3]
  unfold settleHeat
  have hne : ¬ (s.teff > s.heat.level ∧ s.teff ≠ s.scratch.teff ∧ s.heat.restartBlock = false) := by
    rintro ⟨-, h, -⟩; exact h h3.symm
  simp only [hne, if_false]
  split
  · omega
  · split
    · rename_i _ heq
      have hr : s.heat.raise = none := by
        cases hr : s.heat.raise with
        | none => rfl
        | some r => have := h2 (by simp [hr]); omega
      rw [← hr]; exact e
    · exact e

/-- With no LEAD STATUS owed nothing is sent (R59). -/
theorem flushStatus_of {s : State} (h : s.scratch.statusDue = false) : flushStatus s = s := by simp [flushStatus, h]

/-- The end of an event that has left doors, heating, inputs and items alone, and owes no LEAD STATUS: only the scratch
fields change. -/
theorem finish_quiet {s t : State} (hr : s.atRest) (hd : t.doors = s.doors) (hh : t.heat = s.heat)
    (hi : t.inputs = s.inputs) (hm : t.items = s.items) (hs : t.scratch = ⟨s.teff, false, none⟩) :
    finish t = { t with scratch := Scratch.rest } := by
  obtain ⟨-, h1, h2, h3⟩ := hr
  have ht := teff_congr hd hh hi hm
  have hn := toneDemand_congr hd
  unfold finish
  rw [settleTone_of (by rw [hn, hd]; exact h1), settleHeat_of (by rw [ht, hh]; exact h2) (by rw [ht, hh]; exact h3)
    (by rw [hs, ht]), flushStatus_of (by rw [hs])]

/-- The end of any event leaves the state at rest (R124, R146, R147). -/
theorem settleTone_agrees (s : State) : (settleTone s).doors.tone.isSome = (settleTone s).toneDemand := by
  unfold settleTone
  cases hd : s.toneDemand <;> cases ht : s.doors.tone <;> simp_all [State.toneDemand]

end Sys2Proof.Machine
end

