-- ==== Sys2Proof/Laws/Frames.lean ====
section
/-! SUPPORT. Frames the node builds: their header reads back as it was given, and their check is that of their content. -/

namespace Sys2Proof.Machine

/-- The header byte gives back the direction, the REFLECTED flag and a hop of 0..63 (R17, R28). -/
theorem flagsByte_fields (l r : Bool) (h : Fin 64) :
    (flagsByte l r h).getLsbD 7 = l ∧ (flagsByte l r h).getLsbD 6 = r ∧ (flagsByte l r h).toNat % 64 = h := by
  revert l r h; decide

/-- A frame built by the node carries the check of its own content (R14, R35). -/
@[simp] theorem recheck_checkGood (f : Frame) : f.recheck.checkGood = true := by
  simp [Frame.checkGood, Frame.recheck, Frame.checked]

section mkFrame

variable (k : Kind) (l r : Bool) (h : Nat) (d src : Byte) (pl : List Byte)

@[simp] theorem mkFrame_checkGood : (mkFrame k l r h d src pl).checkGood = true := recheck_checkGood _
@[simp] theorem mkFrame_kind : (mkFrame k l r h d src pl).kind = k := rfl
@[simp] theorem mkFrame_dest : (mkFrame k l r h d src pl).dest = d := rfl
@[simp] theorem mkFrame_src : (mkFrame k l r h d src pl).src = src := rfl
@[simp] theorem mkFrame_payload : (mkFrame k l r h d src pl).payload = pl := rfl

/-- The hop written saturates at 63 (R28). -/
theorem flagsByte_min : flagsByte l r h = flagsByte l r (min 63 h) := by simp [flagsByte]

@[simp] theorem mkFrame_leadward : (mkFrame k l r h d src pl).leadward = l := by
  have := (flagsByte_fields l r ⟨min 63 h, by omega⟩).1
  rw [← flagsByte_min] at this; exact this

@[simp] theorem mkFrame_reflected : (mkFrame k l r h d src pl).reflected = r := by
  have := (flagsByte_fields l r ⟨min 63 h, by omega⟩).2.1
  rw [← flagsByte_min] at this; exact this

@[simp] theorem mkFrame_hop : (mkFrame k l r h d src pl).hop = min 63 h := by
  have := (flagsByte_fields l r ⟨min 63 h, by omega⟩).2.2
  rw [← flagsByte_min] at this; exact this

end mkFrame

/-- A 16-bit field reads back as sent (R17). -/
@[simp] theorem wordAt_wordBytes (w : Word) (l : List Byte) : wordAt (wordBytes w ++ l) 0 = w := by
  show hiByte w ++ loByte w = w
  ext i hi
  simp only [hiByte, loByte, BitVec.getElem_append, BitVec.getElem_extractLsb']
  split
  · simp [BitVec.getLsbD_eq_getElem hi]
  · rw [show 8 + (i - 8) = i by omega, BitVec.getLsbD_eq_getElem hi]

end Sys2Proof.Machine
end

