-- ==== Sys2Proof/Laws/Operations.lean ====
section
/-! SUPPORT. Everything that the shared operations of the consist, door and heating units can do, case by case. -/

namespace Sys2Proof.Machine

/-! ### Timers -/

@[simp] theorem onExpiry_some (d : Nat) (f : State → State) (s : State) : onExpiry (some d) f s = f (s.reach d) := rfl
@[simp] theorem onExpiry_none (f : State → State) (s : State) : onExpiry none f s = s := rfl

/-! ### The consist unit -/

/-- A node in PLACED enters STALE and raises it; any other stays as it is (R76). -/
theorem enterStale_cases (s : State) :
    (s.consist.state = .placed ∧
      enterStale s = raise .stale { s with consist := { s.consist with state := .stale } }) ∨
    (s.consist.state ≠ .placed ∧ enterStale s = s) := by
  unfold enterStale; split <;> simp_all

/-- An outward frame starts the lead-loss timer, or leaves the node alone (R27, R77). -/
theorem handSource_cases (src : Byte) (s : State) :
    (src = 1 ∧ s.placedOrStale = true ∧ s.lead.role = false ∧ handSource src s = startLeadLoss s) ∨
    handSource src s = s := by
  unfold handSource; split
  · rename_i h; exact .inl ⟨h.1, h.2.1, h.2.2, rfl⟩
  · exact .inr rfl

/-- A node returns to UNPLACED, or was there already (R44). -/
theorem returnToUnplaced_cases (s : State) :
    (s.consist.state = .unplaced ∧ returnToUnplaced s = s) ∨
    (s.consist.state ≠ .unplaced ∧ returnToUnplaced s = raise .unplaced (losePosition .unplaced s)) := by
  unfold returnToUnplaced; split <;> simp_all

/-! ### The survey at the lead -/

@[simp] theorem flushMiss_none {s : State} (h : s.scratch.missed = none) : flushMiss s = s := by simp [flushMiss, h]

/-- A miss followed by an evaluation sends the LEAD STATUS of the miss, with the survey state it left (R85, R136). -/
theorem flushMiss_some {s : State} {u : SurveyUnit} (h : s.scratch.missed = some u) :
    flushMiss s = offer .cab (leadStatusFrame { s with survey := u }) defaultRate s := by simp [flushMiss, h]

/-- A LEAD STATUS that is owed is built from the state in which the event has been handled in full (R59). -/
theorem flushStatus_due {s : State} (h : s.scratch.statusDue = true) :
    flushStatus s = offer .cab (leadStatusFrame s) defaultRate (flushMiss s) := by simp [flushStatus, h]

/-- A reflected SURVEY is evaluated at a lead in LEADING where it is outstanding, and there finds the consist stale and starts
a roll call, finds it stale, or finds nothing; any other changes nothing (R83, R84). -/
theorem takeReflectedSurvey_cases (d : SurveyData) (s : State) :
    let e := oweStatus { keepMiss s with survey := { s.survey with
      outstanding := none, misses := 0, record := recordOf d, foundStale := findsStale d s } }
    (¬ (s.lead.state = .leading ∧ s.survey.outstanding = some d.number) ∧ takeReflectedSurvey d s = s) ∨
    (s.lead.state = .leading ∧ s.survey.outstanding = some d.number ∧
      ((findsStale d s = false ∧ takeReflectedSurvey d s = e) ∨
       (findsStale d s = true ∧ (enterStale e).recalls = false ∧ takeReflectedSurvey d s = enterStale e) ∨
       (findsStale d s = true ∧ (enterStale e).recalls = true ∧
        takeReflectedSurvey d s = autoRecall (enterStale e)))) := by
  intro e
  by_cases h : s.lead.state = .leading ∧ s.survey.outstanding = some d.number
  · refine .inr ⟨h.1, h.2, ?_⟩
    have hd : takeReflectedSurvey d s =
        if findsStale d s = true then
          (if (enterStale e).recalls = true then autoRecall (enterStale e) else enterStale e) else e := by
      unfold takeReflectedSurvey; rw [if_pos h]; rfl
    rw [hd]
    cases hf : findsStale d s <;> cases hr : (enterStale e).recalls <;> simp
  · exact .inl ⟨h, by unfold takeReflectedSurvey; rw [if_neg h]⟩

/-! ### The door unit -/

/-- A release is accepted only at standstill on a PLACED node, from a state that is neither FAULT nor ISOLATED; otherwise the
channel keeps its state (R110). -/
theorem releaseChannel_cases (c : Side) (s : State) :
    (releaseChannel c s = (.accepted, enterReleased c s) ∧ s.active .zsp = true ∧ s.consist.state = .placed ∧
      (s.channel c).state ≠ .fault ∧ (s.channel c).state ≠ .isolated) ∨
    (releaseChannel c s).2 = s := by
  unfold releaseChannel
  split <;> first | exact .inr rfl | skip
  all_goals
    rename_i h
    by_cases hz : s.active .zsp = false
    · simp [hz]
    · by_cases hp : s.consist.state = .placed <;> simp_all

/-- A door reset takes a channel in FAULT outside the settling hold into WARNING, and leaves any other (R113). -/
theorem doorResetChannel_cases (c : Side) (s : State) :
    (s.doorFault c = true ∧ doorResetChannel c s = (.accepted, enterWarning c (clearRetries c s))) ∨
    (s.doorFault c = false ∧ doorResetChannel c s = (.unchanged, s)) := by
  unfold doorResetChannel; split <;> simp_all

/-- A channel enters CLOSING, or LOCKED with all its leaves closed (R115, R116). -/
theorem enterClosing_cases (c : Side) (s : State) :
    (s.allClosed c = true ∧ enterClosing c s = enterLocked c s) ∨
    (s.allClosed c = false ∧ enterClosing c s =
      s.setChannel c { s.channel c with state := .closing, timer := s.start (s.itemN Item.closeTime) }) := by
  unfold enterClosing; split <;> simp_all

/-! ### The heating unit -/

/-- The grant of a pass: the stage granted out of the residual, a shortfall counted, or the pass left alone (R167). -/
theorem decideGrant_cases (d : PassData) (s : State) :
    (d.level.toNat ≤ s.eligible d.demand.toNat ∧ s.heat.grant + 1 = d.level.toNat ∧
      s.scaledCurrent d.level.toNat ≤ d.residual.toNat ∧ decideGrant d s =
        ({ d with residual := d.residual - wordItem (s.scaledCurrent d.level.toNat), granted := satIncByte d.granted },
         { s with heat := { s.heat with grant := d.level.toNat } })) ∨
    (d.residual.toNat < s.scaledCurrent d.level.toNat ∧
      decideGrant d s = ({ d with shortfall := satIncByte d.shortfall }, s)) ∨
    decideGrant d s = (d, s) := by
  unfold decideGrant; split
  · rename_i h
    split
    · rename_i h'; exact .inl ⟨h.1, h.2, h', rfl⟩
    · rename_i h'; exact .inr (.inl ⟨by omega, rfl⟩)
  · exact .inr (.inr rfl)

/-- After the effective target is worked out, the energized level does not stand above it (R146, R147). -/
theorem settleHeat_level (s : State) : (settleHeat s).heat.level = min s.heat.level s.teff := by
  unfold settleHeat
  dsimp only
  by_cases hr : s.teff > s.heat.level ∧ s.teff ≠ s.scratch.teff ∧ s.heat.restartBlock = false
  · simp only [if_pos hr]
    rw [if_neg (by omega), if_neg (by omega)]
    simp only; omega
  · simp only [if_neg hr]
    by_cases h1 : s.teff < s.heat.level
    · rw [if_pos h1]; simp only [dropTo]; omega
    · rw [if_neg h1]; split <;> simp only <;> omega

/-! ### The first settling of a leaf -/

/-- A leaf that settles for the first time works on the settling hold, or closes or opens outside it (R105, R108; log 24). -/
theorem leafSettled_cases (c : Side) (n : Fin 4) (level : Bool) (s : State) :
    ((s.channel c).hold = true ∧ leafSettled c n level s = tryEndHold c s) ∨
    ((s.channel c).hold = false ∧ level = true ∧ leafSettled c n level s = leafCloses c n s) ∨
    ((s.channel c).hold = false ∧ level = false ∧ leafSettled c n level s = leafOpens c n s) := by
  unfold leafSettled
  cases (s.channel c).hold <;> cases level <;> simp

end Sys2Proof.Machine
end

