-- ==== Sys2Proof/Laws/Ports.lean ====
section
/-! SUPPORT. What the shared operations of a port can do: a frame offered to a queue, a frame dropped, an event raised. -/

namespace Sys2Proof.Machine

/-- Raising an event makes it present and no other (R175). -/
theorem present_raise_iff (ev x : Event) (s : State) : (raise ev s).present x = (s.present x || x == ev) := by
  unfold raise State.present
  have h : (BitVec.twoPow 20 (eventBit ev)).getLsbD (eventBit x) = (x == ev) := by
    rw [BitVec.getLsbD_twoPow]
    cases ev <;> cases x <;> decide
  rw [BitVec.getLsbD_or, h]

/-- A frame offered to a queue with a free slot joins behind the others, and nothing else changes (R13). -/
theorem offerQueued_room {s : State} {p : Port} (q : Queued) (h : (s.port p).queue.length < 4) :
    offerQueued p q s = s.setPort p { s.port p with queue := (s.port p).queue ++ [q] } := by
  simp [offerQueued, queueSlots, h]

/-- A frame offered to a full queue is discarded and counted, and QUEUE_OVERFLOW raised (R13). -/
theorem offerQueued_full {s : State} {p : Port} (q : Queued) (h : ¬ (s.port p).queue.length < 4) :
    offerQueued p q s = raise .queueOverflow (s.setPort p { s.port p with overflows := satInc (s.port p).overflows }) := by
  simp [offerQueued, queueSlots, h]

/-- Everything that offering a frame can do. -/
theorem offerQueued_cases (p : Port) (q : Queued) (s : State) :
    ((s.port p).queue.length < 4 ∧
      offerQueued p q s = s.setPort p { s.port p with queue := (s.port p).queue ++ [q] }) ∨
    (4 ≤ (s.port p).queue.length ∧ offerQueued p q s =
      raise .queueOverflow (s.setPort p { s.port p with overflows := satInc (s.port p).overflows })) := by
  by_cases h : (s.port p).queue.length < 4
  · exact .inl ⟨h, offerQueued_room q h⟩
  · exact .inr ⟨by omega, offerQueued_full q h⟩

/-- Offering a frame at one port leaves the others alone. -/
theorem port_offerQueued_ne {s : State} {p x : Port} (q : Queued) (h : x ≠ p) : (offerQueued p q s).port x = s.port x := by
  rcases offerQueued_cases p q s with ⟨-, e⟩ | ⟨-, e⟩ <;> simp [e, port_setPort_ne s _ h]

/-- Offering a frame touches only the ports and the event set. -/
theorem offerQueued_rest (p : Port) (q : Queued) (s : State) :
    { offerQueued p q s with pu1 := s.pu1, pu2 := s.pu2, puC := s.puC, events := s.events } = s := by
  rcases offerQueued_cases p q s with ⟨-, e⟩ | ⟨-, e⟩ <;> rw [e] <;> rcases p with (_ | _) | _ <;> rfl

/-- A dropped frame is counted once and LINE_ERROR raised, and nothing else changes (R8). -/
theorem dropFrame_dropped (p : Port) (next : RxState) (s : State) : Dropped p next s (dropFrame p next s) := by
  refine ⟨?_, fun ev => ?_, fun q h => ?_, ?_⟩
  · simp [dropFrame, satInc]
  · simp [dropFrame, present_raise_iff]
    rcases p with (_ | _) | _ <;> rfl
  · simp [dropFrame, port_setPort_ne s _ h]
  · rcases p with (_ | _) | _ <;> rfl

/-- Outside a SUPPLY reset a plain event is its effect. -/
theorem plainEvent_of {s : State} (f : State → State) (h : s.supplyLow = false) : plainEvent f s = .next (f s) := by
  simp [plainEvent, h]

/-- Outside a SUPPLY reset an event is its effect between its beginning and its end. -/
theorem event_of {s : State} (f : State → State) (h : s.supplyLow = false) : event f s = .next (finish (f (begin s))) := by
  simp [event, h]

/-- While a SUPPLY reset lasts nothing happens. -/
theorem event_supplyLow {s : State} (f : State → State) (h : s.supplyLow = true) : event f s = .next s := by
  simp [event, h]

end Sys2Proof.Machine
end

