-- ==== Sys2Proof/Laws/Tables.lean ====
section
/-! SUPPORT. The consist table read back by position after each of its updates. -/

namespace Sys2Proof.Machine

/-- The record at a position of 1 and above stands one place lower in the list. -/
theorem recordAt_eq (t : ConsistTable) {p : Nat} (hp : 1 ≤ p) : recordAt t p = (t.list[p - 1]?).getD none := by
  unfold recordAt Tab.getD
  rw [if_neg (by omega), List.getD_eq_getElem?_getD]

/-- A record stored at a position stands there, and no other position keeps its identity (R49, R63). -/
theorem recordAt_storeRecord (t : ConsistTable) (r : CoachRecord) {p q : Nat} (hp : 1 ≤ p) (hp' : p ≤ 32) (hq : 1 ≤ q)
    (hq' : q ≤ 32) : recordAt (storeRecord p r t) q =
      if q = p then some r else (recordAt t q).filter (fun x => x.identity != r.identity) := by
  obtain ⟨l, hl⟩ := t
  rw [recordAt_eq _ hq, recordAt_eq _ hq]
  simp only [storeRecord, Tab.set, Tab.map, List.getElem?_set, List.getElem?_map, List.length_map, hl]
  by_cases h : q = p
  · subst h; simp [show q - 1 < 32 by omega]
  · rw [if_neg (by omega), if_neg h, List.getElem?_eq_getElem (by omega : q - 1 < l.length)]
    cases hx : l[q - 1] with
    | none => simp
    | some x => by_cases hi : x.identity = r.identity <;> simp [hi, Option.filter]

/-- A table cut to its first `n` positions. -/
theorem recordAt_keep (t : ConsistTable) {n p : Nat} (hp : 1 ≤ p) (hp' : p ≤ 32) :
    recordAt (t.keep n none) p = if p ≤ n then recordAt t p else none := by
  obtain ⟨l, hl⟩ := t
  rw [recordAt_eq _ hp, recordAt_eq _ hp]
  simp only [Tab.keep]
  by_cases h : p ≤ n
  · rw [if_pos h, List.getElem?_append_left (by simp [hl]; omega), List.getElem?_take_of_lt (by omega)]
  · rw [if_neg h, List.getElem?_append_right (by simp; omega), List.getElem?_replicate]
    split <;> rfl

/-- An empty table holds no record. -/
theorem recordAt_empty (p : Nat) : recordAt emptyTable p = none := by
  by_cases h : p = 0
  · simp [recordAt, h]
  · rw [recordAt_eq _ (by omega)]
    simp only [emptyTable, Tab.fill, List.getElem?_replicate]
    split <;> rfl

/-- A table with one record. -/
theorem recordAt_tableWith (r : CoachRecord) {p q : Nat} (hp : 1 ≤ p) (hq : 1 ≤ q) (hq' : q ≤ 32) :
    recordAt (tableWith p r) q = if q = p then some r else none := by
  rw [recordAt_eq _ hq]
  simp only [tableWith, emptyTable, Tab.set, Tab.fill, List.getElem?_set, List.length_replicate, List.getElem?_replicate]
  by_cases h : q = p
  · subst h; simp [show q - 1 < 32 by omega]
  · rw [if_neg (by omega), if_neg h, if_pos (by omega)]; rfl

end Sys2Proof.Machine
end

