-- ==== Sys2Proof/Tests/Slice0.lean ====
section
/-! SUPPORT. The model's own tests: ill-formed commands refused, values worked in the spec, one step of the commands most
likely to go wrong, and for every statement a state and operands that meet its hypotheses. -/

namespace Sys2Proof.Tests

-- One theorem at a time: each kernel evaluation otherwise asks for a thread of its own.
set_option Elab.async false

open Machine

/-! ### Small states -/

/-- The frame a command carries, less the `k` payload bytes that the command fixes. -/
def cut (k : Nat) (f : Frame) : LineFrame := ⟨f.flags, f.dest, f.src, f.payload.drop k, f.check⟩

/-- A frame as sent outward by position 1. -/
def outward (kind : Kind) (hop : Nat) (payload : List Byte) : LineFrame :=
  cut 0 (mkFrame kind false false hop destAll 1 payload)

/-- A reflected frame. -/
def reflected (kind : Kind) (hop : Nat) (payload : List Byte) : LineFrame :=
  cut 0 (mkFrame kind true true hop destAll 1 payload)

/-- A leadward frame to position 1. -/
def inward (kind : Kind) (src : Byte) (payload : List Byte) : LineFrame :=
  cut 0 (mkFrame kind true false 0 1 src payload)

/-- A REQUEST to LOCAL with `k` bytes fixed by its command. -/
def request (k : Nat) (payload : List Byte) : LineFrame := cut k (mkFrame .request false false 0 0 0 payload)

/-- Port `p` is assembling a frame. -/
def hearing (p : Port) (s : State) : State := s.setPort p { s.port p with rx := .assembling, buffer := [0x55] }

/-- Port `p` is sending the head of its queue. -/
def sending (p : Port) (q : Queued) (s : State) : State :=
  s.setPort p { s.port p with queue := [q], sending := some ⟨.bps38400, none⟩ }

/-- The neighbour at end `e` is present. -/
def live (e : End) (s : State) : State := s.setEnd e { s.endUnit e with silence := some 5000 }

/-- The coaches of the spec's example train (file 04), then any others. -/
def coach (n : Nat) : CoachRecord :=
  ⟨[0x0104A2C7#32, 0x0104A311#32, 0x0207001E#32].getD n (BitVec.ofNat 32 n), byteOf (n + 1),
    if n = 1 then 0x10 else 0, 0x22, 0, 0⟩

/-- A table with the first `n` coaches. -/
def train (n : Nat) : ConsistTable := Tab.keep ⟨(List.range 32).map (fun i => some (coach i)), by simp⟩ n none

/-- A node at position `p` of `n`, End 1 leadward unless `e` says otherwise. -/
def placedAt (st : ConsistState) (p n : Nat) (e : End) (s : State) : State :=
  { s with identity := (coach (p - 1)).identity
           consist := { s.consist with state := st, position := p, leadEnd := some e, table := train n, length := n,
                                       check := consistCheck (train n) n } }

/-- A lead with its outward end E2, in a state of its machine. -/
def leadIn (ls : LeadState) (st : ConsistState) (n : Nat) (s : State) : State :=
  let s := placedAt st 1 n .e1 s
  { s with lead := { s.lead with role := true, state := ls } }

/-- A filtered level. -/
def settle (i : Input) (b : Bool) (s : State) : State := s.setInput i ⟨b, some b, none⟩

/-- An input whose stability timer runs, its raw level differing from the filtered one. -/
def turning (i : Input) (b : Bool) (s : State) : State := s.setInput i ⟨b, some (!b), some 20⟩

/-- Both channels in a state. -/
def doorsIn (st : DoorState) (s : State) : State :=
  { s with doors := { s.doors with a := ⟨st, false, some 900, 0, .none⟩, b := ⟨.locked, false, none, 0, .none⟩ } }

/-- A heating unit in NORMAL with four stages of 40 CU and everything else allowed. -/
def warmable (level : Nat) (raise : Option Raise) (s : State) : State :=
  let s := settle .th false (doorsIn .locked s)
  { s with heat := { s.heat with
      stages := Tab.fill 4 ⟨true, 40, false⟩, monitor := .normal, target := 4, level := level, raise := raise
      restartBlock := false, minOff := Tab.fill 4 none, window := [1, 2, 3, 4, 5, 6, 7, 8], vAvg := 1060 } }

/-- A frame for a queue. -/
def anyQueued : Queued := queued (mkFrame .order false false 1 destAll 1 [1, 0, 0, 0])

/-- A node's step on one command. -/
def after (c : Instr) (s : State) : Option State :=
  match step { s with pending := [c] } with
  | .next t => some t
  | .fault _ | .refused _ => none

/-! ### Well-formed commands: each check refuses an ill-formed one -/

theorem test_wf_sync_data : Instr.wf (.syncCharacter .cab 2604 ⟨0x54, true, true⟩) = false := by decide
theorem test_wf_sync_parity : Instr.wf (.syncCharacter .cab 2604 ⟨0x55, true, true⟩) = false := by decide
theorem test_wf_sync_good : Instr.wf (.syncCharacter .cab 2604 ⟨0x55, false, true⟩) = true := by decide
theorem test_wf_parity : Instr.wf (.parityError .cab ⟨0x55, false, true⟩) = false := by decide
theorem test_wf_length : Instr.wf (.lengthError .cab 0x06 11 none) = false := by decide
theorem test_wf_gap : Instr.wf (.gapError .cab 44) = false := by decide
theorem test_wf_check_length : Instr.wf (.checkError .cab .idle ⟨0, 0, 0, [1], 0⟩) = false := by decide +kernel
theorem test_wf_check_good : Instr.wf (.checkError .cab .idle ⟨0, 0, 0, [], 0x2D42⟩) = false := by decide +kernel
theorem test_wf_hunt : Instr.wf (.returnToHunt .cab 44) = false := by decide
theorem test_wf_break : Instr.wf (.lineBreak .cab 21) = false := by decide
theorem test_wf_transmit : Instr.wf (.transmitStart .cab 10) = false := by decide
theorem test_wf_frame_length : Instr.wf (.idle .cab ⟨0, 0, 0, [1], 0x2D42⟩) = false := by decide +kernel
theorem test_wf_frame_check : Instr.wf (.idle .cab ⟨0, 0, 0, [], 0x2D43⟩) = false := by decide +kernel
theorem test_wf_reflected : Instr.wf (.reflectedConfirm .cab (outward .confirm 1 [1, 2, 3, 0])) = false := by
  decide +kernel
theorem test_wf_not_reflected : Instr.wf (.confirm .cab (reflected .confirm 1 [1, 2, 3, 0])) = false := by decide +kernel
theorem test_wf_code : Instr.wf (.badRequestCode .cab 11 (request 1 [11])) = false := by decide +kernel
theorem test_wf_request : Instr.wf (.stop .cab (request 1 [9])) = false := by decide +kernel
theorem test_wf_consist_table : Instr.wf (.readConsistTable .cab (request 1 [3, 1, 0, 1])) = false := by decide +kernel
theorem test_wf_stage_table : Instr.wf (.writeStageTable .cab (request 1 [4, 0, 0, 1])) = false := by decide +kernel
theorem test_wf_request_good : Instr.wf (.stop .cab (request 1 [10])) = true := by decide +kernel

/-! ### Values worked in the spec -/

/-- File 01, the frame check worked for an IDLE frame. -/
theorem test_idle_check : crc [0, 0, 0, 0, 0] = 0x2D42 := by decide +kernel

/-- File 01: the register after the kind character. -/
theorem test_crc_first_byte : crcByte 0xFFFF 0 = 0x12CA := by decide

/-- File 01: the eight characters of that IDLE frame. -/
theorem test_idle_chars :
    (mkFrame .idle false false 0 0 0 []).chars = [0x55, 0, 0, 0, 0, 0, 0x42, 0x2D] := by decide +kernel

/-- File 04: the bytes of the consist check for coaches X and Y. -/
theorem test_check_bytes : checkBytes (coach 0) ++ checkBytes (coach 1) =
    [0x01, 0x04, 0xA2, 0xC7, 0x00, 0x01, 0x04, 0xA3, 0x11, 0x01] := by decide

/-- File 09, the worked case: 40 CU at V_avg 1060 and V_nom 1000 scale to 43 CU. -/
theorem test_scaled_current :
    (warmable 0 none { State.reset with items := State.reset.items.set Item.vNom 1000 }).scaledCurrent 1 = 43 := by
  decide +kernel

/-- File 09, the worked case: position 2 takes level 1 of cycle 12 from 368 CU and leaves 325, the second granted. -/
theorem test_pass_level_one :
    (computePass ⟨12, 1, 368, 1, 0, 4⟩
      (warmable 0 none { State.reset with items := State.reset.items.set Item.vNom 1000 })).1 =
    ⟨12, 1, 325, 2, 0, 4⟩ := by decide +kernel

/-- File 08, the worked sequence: at position 3 a stagger step of 250 makes stage 1 due at 750. -/
theorem test_stagger_due :
    (takeHeatSet ⟨5, 250⟩ (warmable 0 none (placedAt .placed 3 4 .e1 { State.reset with
      heat := { State.reset.heat with cycleRec := some 5, grant := 3 } }))).heat.raise = some ⟨750, false⟩ := by
  decide +kernel

/-- File 05, the worked example: train LEFT is side A with End 1 leadward, and side B with End 2 leadward. -/
theorem test_left_side :
    addressed 0 (placedAt .placed 1 4 .e1 State.reset) .a = true ∧
    addressed 0 (placedAt .placed 2 4 .e2 State.reset) .a = false := by decide +kernel

/-! ### One step -/

/-- R8: a frame whose check is wrong is dropped, and counted. -/
theorem test_bad_check_drops :
    (after (.idle (.line .e1) ⟨0, 0, 0, [], 0x2D43⟩) (hearing (.line .e1) State.reset)).map
      (fun t => (t.pu1.rx, t.pu1.lineErrors, t.alive .e1)) = some (.hunt, 1, false) := by decide +kernel

/-- R7: the same with the right check makes the end alive. -/
theorem test_idle_makes_alive :
    (after (.idle (.line .e1) ⟨0, 0, 0, [], 0x2D42⟩) (hearing (.line .e1) State.reset)).map
      (fun t => (t.pu1.rx, t.pu1.lineErrors, t.alive .e1)) = some (.hunt, 0, true) := by decide +kernel

/-- R61: a CALL with hop 1 makes the node position 2. -/
theorem test_call_places :
    (after (.call (.line .e2) (outward .call 1 [1])) (hearing (.line .e2) State.reset)).map
      (fun t => (t.consist.state, t.consist.position, t.consist.leadEnd)) = some (.placing, 2, some .e2) := by
  decide +kernel

/-- R66: a CALL with hop 32 makes it no position. -/
theorem test_call_overflow :
    (after (.call (.line .e2) (outward .call 32 [1])) (hearing (.line .e2) State.reset)).map
      (fun t => (t.consist.state, t.pu2.queue.map (fun q => q.frame.payload))) =
    some (.unplaced, [[32, 1, 0, 0, 0, 0]]) := by decide +kernel

/-- R110: a release away from standstill is refused. -/
theorem test_release_not_standstill :
    (releaseChannel .a (settle .zsp false (doorsIn .locked (placedAt .placed 2 3 .e1 State.reset)))).1 =
      .refused .notStandstill := by decide +kernel

/-- R117: the close timer of a channel with retries left gives RECYCLE. -/
theorem test_close_recycles :
    (after (.closeTimerExpiry .a) (doorsIn .closing State.reset)).map (fun t => (t.doors.a.state, t.doors.a.retries)) =
      some (.recycle, 1) := by decide +kernel

/-- R105, R116: a leaf that a write has added closes as it first settles, and the channel in CLOSING is LOCKED. -/
theorem test_first_settling_closes :
    (after (.stabilityTimerExpiry (.leaf .a 0)) ((settle (.leaf .a 1) true (doorsIn .closing State.reset)).setInput
      (.leaf .a 0) ⟨true, none, some 20⟩)).map (fun t => (t.doors.a.state, t.output (.close .a))) =
    some (.locked, false) := by decide +kernel

/-- R183: a numeric value above its range is clamped to its top. -/
theorem test_write_clamps :
    (after (.writeItems .cab (request 1 [2, 24, 1, 9, 0])) (hearing .cab State.reset)).map (fun t => t.item 24) =
      some 4 := by decide +kernel

/-- R189: a SUPPLY reset lasts, with every output off, until the supply is back. -/
theorem test_supply_reset :
    (after .supplyReset State.reset).map (fun t => (t.supplyLow, allOutputs.map t.output)) =
      some (true, [false, false, false, false, false, false, false, false, false, false]) := by decide +kernel

/-- R82, R85, R136: a lead that takes its own survey back in the event that counts a miss sends a LEAD STATUS for each. -/
theorem test_miss_and_reflection :
    (after .surveyPeriodExpiry (startSurveyPeriod { leadIn .leading .placed 3 State.reset with
      survey := { SurveyUnit.reset with outstanding := some 9, misses := 1 } })).map
      (fun t => (t.puC.queue.map (fun q => byteAt q.frame.payload 14), t.survey.misses)) = some ([2, 0], 0) := by
  decide +kernel

/-- R180: the STALE that a survey itself raises is not yet in the set it reports. -/
theorem test_survey_reports_what_it_finds :
    (after (.survey (.line .e1) (outward .survey 1 [9, 2, 0, 0, 1, 1, 0, 0, 0, 0, 0])) (hearing (.line .e1) (live .e1
      (placedAt .placed 2 3 .e1 { State.reset with events := 0, items := State.reset.items.set 33 0xFFFF })))).map
      (fun t => (t.present .stale, t.pu1.queue.map (fun q => (byteAt q.frame.payload 8, byteAt q.frame.payload 10)))) =
    some (true, [(2, 0)]) := by decide +kernel

/-! ### Nodes that the witnesses stand on -/

/-- Position 2 of 3 hearing its leadward end E1, alone (an end node) or with a neighbour at E2. -/
def second (st : ConsistState) : State := hearing (.line .e1) (live .e1 (placedAt st 2 3 .e1 State.reset))
def middle (st : ConsistState) : State := live .e2 (second st)

/-- A lead of 3 hearing its outward end E2. -/
def lead (ls : LeadState) (st : ConsistState) : State := hearing (.line .e2) (live .e2 (leadIn ls st 3 State.reset))

/-- A node without a position hearing its cab port. -/
def cab : State := hearing .cab State.reset

/-- The same, with a store in progress. -/
def storing : State :=
  { cab with mgmt := { cab.mgmt with
      state := .storePending, owed := some ⟨.cab, 0⟩, store := .storing, storeTimer := some 80, storing := some factoryImage } }

/-- The same, after a reset with no leaves on either side. -/
def leafless : State :=
  { cab with items := (cab.items.set (Item.leafCount .a) 0).set (Item.leafCount .b) 0
             doors := { cab.doors with a := Channel.reset 0, b := Channel.reset 0 } }

/-- A port's queue of `n` frames. -/
def queueOf (p : Port) (n : Nat) (s : State) : State := s.setPort p { s.port p with queue := List.replicate n anyQueued }

/-- Position 3 of 4 with a warm heating unit and a grant of 3 in cycle 5. -/
def granted : State := hearing (.line .e1) (live .e1 (warmable 0 none (placedAt .placed 3 4 .e1
  { State.reset with heat := { State.reset.heat with cycleRec := some 5, grant := 3 } })))

/-- A lead at level 4 of cycle 5. -/
def passing : State :=
  { lead .leading .placed with seq := { State.reset.seq with
      number := 5, cycle := some ⟨4, 600, 4⟩, passTimer := some 900, periodTimer := some 30000 } }

def orderF : Frame := mkFrame .order false false 1 255 1 [1, 0, 0, 0]
def tailF : Frame := mkFrame .tail true false 0 1 3 [3, 0, 0, 0, 0, 0]
def requestTo (d : Byte) : Frame := mkFrame .request false false 1 d 1 [9]
def conflictTail : LineFrame := inward .tail 2 [2, 2, 7, 0, 0, 0]
def answerTwo : LineFrame := inward .answer 2 (coach 1).bytes
def rosterThree : LineFrame := outward .roster 1 ([3, 1] ++ (coach 2).bytes)
/-- A ROSTER of four from position 1: the node's own place, its own identity at another, and an identity twice. -/
def rosterFour : LineFrame :=
  outward .roster 1 ([1, 4] ++ (coach 2).bytes ++ (coach 0).bytes ++ (coach 1).bytes ++ (coach 2).bytes)
/-- A CONFIRM over `n` with the check of the whole train of three plus `d`, and a first-mismatch field. -/
def confirmOf (n : Byte) (d : Word) (first : Byte) : LineFrame :=
  outward .confirm 1 ([n] ++ wordBytes (consistCheck (train 3) 3 + d) ++ [first])
def confirmThree : LineFrame := outward .confirm 1 ([3] ++ wordBytes (consistCheck (train 3) 3) ++ [0])
def confirmBack : LineFrame := reflected .confirm 3 ([3] ++ wordBytes (consistCheck (train 3) 3) ++ [0])
def surveyOut : LineFrame := outward .survey 1 ([9, 3] ++ wordBytes (consistCheck (train 3) 3) ++ [1, 1, 0, 0, 0, 0, 0])
def surveyBack : LineFrame := reflected .survey 3 ([9, 3] ++ wordBytes (consistCheck (train 3) 3) ++ [3, 1, 0, 0, 0, 0, 0])
def heatSetF : LineFrame := outward .heatSet 2 [5, 250, 0]
def passF : LineFrame := outward .heatPass 2 [5, 4, 200, 0, 1, 0, 4]
def passBack (level : Byte) : LineFrame := reflected .heatPass 3 [5, level, 20, 0, 2, 1, 4]

/-- A lead awaiting survey 9. -/
def awaiting : State := { lead .leading .placed with survey := { SurveyUnit.reset with outstanding := some 9 } }

/-- A lead with five ROSTER frames to send. -/
def rostering : State :=
  { lead .rostering .placing with lead := { (lead .rostering .placing).lead with
      sendList := List.replicate 5 (leadFrame .roster ([1, 1] ++ (coach 0).bytes)) } }

/-- A table whose second entry is the first that matches code 1, an IGNORE. -/
def ignoring : State :=
  { State.reset with orders := (State.reset.orders.set 0 blankOrder).set 1 (plainOrder 1 .ignore 0) }

/-- A lead without a position hearing its cab port. -/
def failedLead : State :=
  hearing .cab { State.reset with lead := { State.reset.lead with role := true, state := .failed } }

/-- Position 2 of 3 standing still with its doors locked. -/
def standing (st : ConsistState) : State :=
  hearing (.line .e1) (live .e1 (live .e2 (settle .zsp true (doorsIn .locked (placedAt st 2 3 .e1 State.reset)))))

/-- Side A in WARNING, with the tone that goes with it. -/
def warned : State :=
  { doorsIn .warning State.reset with doors := { (doorsIn .warning State.reset).doors with
      tone := some ⟨0, .continuous, true, none⟩ } }

/-- Side A with both its leaves closed. -/
def leavesClosed (s : State) : State := settle (.leaf .a 0) true (settle (.leaf .a 1) true s)

/-- A chime with an INTERRUPTED tone. -/
def chiming : State :=
  { State.reset with doors := { State.reset.doors with
      chime := some 3000, tone := some ⟨0, .interrupted, true, some 500⟩ } }

/-- A coach in NORMAL that may raise nothing. -/
def capped : State := warmable 0 none { State.reset with heat := { State.reset.heat with cCmd := 0 } }

/-- A coach with one stage on and the next due at 700, its min-off timers running or not. -/
def raising (waiting : Bool) (minOff : Timer) : State :=
  let s := warmable 1 (some ⟨700, waiting⟩) State.reset
  { s with heat := { s.heat with minOff := Tab.fill 4 minOff } }

/-- A NODE RESET's REPLY under way on the cab port, on attempt `n`. -/
def leaving (n : Nat) : State :=
  let s := sending .cab ⟨replyFrame 0 8 .done [], defaultRate, true⟩ State.reset
  { s with puC := { s.puC with attempt := n }, mgmt := { s.mgmt with state := .resetPending } }

/-- End port E1 on its third transmit attempt. -/
def lastAttempt : State := { State.reset with pu1 := { State.reset.pu1 with attempt := 3 } }

/-- A cab with its key on and a neighbour at E2, before a roll call and in CALLING. -/
def keyed : State := hearing .cab (live .e2 (settle .key true State.reset))
def calling : State := hearing .cab (live .e2 (settle .key true (leadIn .calling .placing 1 State.reset)))

/-- A frame the cab sends to destination `d`. -/
def cabRequest (d : Byte) (payload : List Byte) : Frame := mkFrame .request false false 0 d 0 payload

/-- A TAIL from position 2 with last position `l` and `flags`. -/
def tailOf (l flags : Byte) : LineFrame := inward .tail 2 [l, flags, 0, 0, 0, 0]

/-- A lead in a roll call with its window running, on attempt and round `n`. -/
def trying (ls : LeadState) (n : Nat) : State :=
  startWindow { lead ls .placing with lead := { (lead ls .placing).lead with attempt := n, round := n } }

/-- A lead with the last two ROSTER frames of a round to send. -/
def lastRosters : State :=
  { lead .rostering .placing with lead := { (lead .rostering .placing).lead with
      sendList := List.replicate 2 (leadFrame .roster ([1, 1] ++ (coach 0).bytes)) } }

/-- A lead that has lost its neighbour, with survey 9 outstanding. -/
def severed : State :=
  startSurveyPeriod { leadIn .leading .placed 3 State.reset with survey := { SurveyUnit.reset with outstanding := some 9 } }

/-- A supply window of `n` samples in SETTLING, or of eight in SHED. -/
def sampled (m : Monitor) (n : Nat) : State :=
  { State.reset with heat := { State.reset.heat with monitor := m, window := List.replicate n 1000 } }

/-- A node whose key comes on, auto-start set to `v`. -/
def keyComing (v : Word) (level : Option Bool) : State :=
  live .e2 ({ State.reset with items := State.reset.items.set Item.autoStart v }.setInput .key ⟨true, level, some 20⟩)

/-! ### A witness for the hypotheses of every statement that has any -/

theorem witness_EmptyQueueTicks :
    State.reset.pending = [] ∧ State.reset.due = [] ∧ { State.reset with now := 100 }.due ≠ [] := by decide +kernel

theorem witness_SyncCharactersAreJudged :
    State.reset.supplyLow = false ∧ State.reset.puC.rx = .hunt ∧ State.reset.puC.sending = none ∧
    charGood ⟨0x55, false, true⟩ = true ∧ (rateWindow .bps38400).1 ≤ 2448 ∧ 2760 ≤ (rateWindow .bps38400).2 ∧
    State.reset.puC.lock = none := by decide +kernel

theorem witness_SyncCharactersAreJudged_fails :
    ∀ r, (rateWindow r).1 ≤ 2761 → 2761 ≤ (rateWindow r).2 →
    State.reset.puC.lock ≠ none ∧ State.reset.puC.lock ≠ some r := by
  intro r; cases r <;> decide

theorem witness_FailedFramesAreDropped :
    cab.supplyLow = false ∧ cab.puC.rx = .assembling ∧ cab.atRest ∧ charGood ⟨0x55, true, true⟩ = false ∧
    lengthCharsGood 0x04 12 (some 2) = false ∧ 44 < 45 ∧ lengthGood .idle [] = true ∧
    (frameOf ⟨0, 0, 0, [], 0x2D43⟩ .idle []).checkGood = false ∧
    (Instr.idle .cab ⟨0, 0, 0, [], 0x2D43⟩).arriving = some (.cab, ⟨.idle, 0, 0, 0, [], 0x2D43⟩) ∧
    (0x2D43 : Word) ≠ crc (Frame.checked ⟨.idle, 0, 0, 0, [], 0x2D43⟩) ∧
    (State.reset.setPort .cab { State.reset.puC with rx := .discarding }).puC.rx = .discarding := by
  unfold State.atRest; decide +kernel

theorem witness_BreakUnlocks :
    (armWatch State.reset).supplyLow = false ∧ (armWatch State.reset).puC.sending = none ∧ 22 ≤ 22 ∧
    (armWatch State.reset).cab.watch = .armed ∧ State.reset.pu1.sending = none ∧ State.reset.cab.watch ≠ .armed := by decide +kernel

theorem witness_LineHoldWatchResets :
    { State.reset with cab := ⟨none, .timing, some 150⟩ }.supplyLow = false ∧
    { State.reset with cab := ⟨none, .timing, some 150⟩ }.cab.watch = .timing := by decide +kernel

theorem witness_SilentPortsLoseTheirLock :
    { State.reset with cab := ⟨some 400, .armed, none⟩ }.supplyLow = false ∧
    ((second .placed).endUnit .e1).silence = some 5000 ∧ (second .placed).supplyLow = false ∧
    (second .placed).consist.state = .placed ∧ (second .stale).consist.state = .stale := by decide +kernel

theorem witness_SilentPortsLoseTheirLock_assembling :
    (hearing .cab { State.reset with cab := ⟨some 400, .armed, none⟩ }).cab.lockTimer = some 400 ∧
    (hearing .cab { State.reset with cab := ⟨some 400, .armed, none⟩ }).puC.rx = .assembling ∧
    (second .placed).pu1.rx = .assembling := by decide +kernel

theorem witness_HoldOffMakesComparisons :
    (settle (.cpl .e1) true State.reset).supplyLow = false ∧
    (settle (.cpl .e1) true State.reset).consist.holdOff = some 400 ∧
    (settle (.cpl .e1) true State.reset).settled (.cpl .e1) = true ∧
    (settle (.cpl .e1) true State.reset).settled (.cpl .e2) = false := by decide +kernel

theorem witness_IdleFrameIsSent :
    State.reset.supplyLow = false ∧ (State.reset.endUnit .e1).idleTimer = some 100 ∧ State.reset.pu1.rx = .hunt ∧
    State.reset.pu1.queue = [] ∧ State.reset.pu1.sending = none ∧
    ((State.reset.setEnd .e1 ⟨none, none⟩).endUnit .e1).idleTimer = none ∧ State.reset.pu1.attempt = 1 ∧
    State.reset.consist.position ≤ 32 := by decide +kernel

theorem witness_QueuedFramesAreSentInOrder :
    (queueOf .cab 2 State.reset).puC.queue = [anyQueued, anyQueued] ∧
    (queueOf .cab 2 State.reset).puC.sending = none ∧ (queueOf .cab 2 State.reset).puC.rx = .hunt ∧
    (sending (.line .e1) anyQueued State.reset).pu1.queue = [anyQueued] ∧
    (sending (.line .e1) anyQueued State.reset).pu1.sending = some ⟨.bps38400, none⟩ ∧
    (sending .cab anyQueued State.reset).puC.queue = [anyQueued] ∧ anyQueued.resetReply = false ∧
    (State.reset.setPort (.line .e2) { State.reset.pu2 with
      sending := some ⟨.bps38400, some tailF⟩ }).pu2.sending = some ⟨.bps38400, some tailF⟩ := by decide +kernel

theorem witness_QueuedFramesAreSentInOrder_again :
    (queueOf .cab 1 { State.reset with puC := { State.reset.puC with attempt := 2 } }).puC.attempt = 2 ∧
    (queueOf .cab 1 { State.reset with puC := { State.reset.puC with attempt := 2 } }).puC.queue = [anyQueued] ∧
    (queueOf .cab 1 { State.reset with puC := { State.reset.puC with attempt := 3 } }).puC.attempt = 3 ∧
    (queueOf .cab 1 { State.reset with puC := { State.reset.puC with attempt := 3 } }).puC.rx = .hunt ∧
    (queueOf .cab 1 { State.reset with puC := { State.reset.puC with attempt := 3 } }).puC.sending = none := by decide +kernel

theorem witness_CollisionsAreRetriedTwice :
    (sending .cab anyQueued State.reset).supplyLow = false ∧ (sending .cab anyQueued State.reset).puC.attempt < 3 ∧
    3 ≤ (leaving 3).puC.attempt ∧ (sending .cab anyQueued State.reset).puC.sending = some ⟨.bps38400, none⟩ := by decide +kernel

theorem witness_CollisionsAreRetriedTwice_third :
    (sending (.line .e1) anyQueued lastAttempt).supplyLow = false ∧
    (sending (.line .e1) anyQueued lastAttempt).pu1.queue = [anyQueued] ∧
    (sending (.line .e1) anyQueued lastAttempt).pu1.sending = some ⟨.bps38400, none⟩ ∧
    3 ≤ (sending (.line .e1) anyQueued lastAttempt).pu1.attempt ∧ anyQueued.resetReply = false ∧
    (State.reset.setPort (.line .e2) { State.reset.pu2 with
      sending := some ⟨.bps38400, some tailF⟩ }).pu2.sending = some ⟨.bps38400, some tailF⟩ := by decide +kernel

theorem witness_IdleKeepsSegmentAlive :
    Heard (.line .e1) (frameOf ⟨0, 0, 0, [], 0x2D42⟩ .idle []) (hearing (.line .e1) State.reset) ∧
    State.reset.alive .e1 = false ∧ Heard (.line .e1) (frameOf ⟨0, 0, 0, [], 0x2D42⟩ .idle []) (second .placed) ∧
    (second .placed).alive .e1 = true := by
  unfold Heard State.atRest; decide +kernel

theorem witness_UnplacedNodePassesFrames :
    (Instr.order (.line .e1) (cut 0 orderF)).arriving = some (.line .e1, orderF) ∧
    Heard (.line .e1) orderF (hearing (.line .e1) State.reset) ∧
    (hearing (.line .e1) State.reset).holdsPosition = false ∧
    (hearing (.line .e1) State.reset).roomFor (.line .e2) 1 ∧
    Heard (.line .e1) orderF (queueOf (.line .e2) 4 (hearing (.line .e1) State.reset)) ∧
    ¬ (queueOf (.line .e2) 4 (hearing (.line .e1) State.reset)).roomFor (.line .e2) 1 := by
  unfold Heard State.atRest State.roomFor; decide +kernel

theorem witness_WrongWayFramesAreDropped :
    Heard (.line .e1) (requestTo 33) (second .placed) ∧ acceptedOnEnd (requestTo 33) = false ∧
    Heard (.line .e1) (mkFrame .leadStatus true false 0 0 1 (List.replicate 22 0)) (second .placed) ∧
    Heard (.line .e1) tailF (second .placed) ∧ acceptedOnEnd tailF = true ∧ tailF.leadward = true ∧
    (second .placed).consist.leadEnd = some .e1 ∧ (second .placed).holdsPosition = true := by
  unfold Heard State.atRest; decide +kernel

theorem witness_WrongWayFramesAreDropped_outward :
    Heard (.line .e2) orderF (lead .leading .placed) ∧ acceptedOnEnd orderF = true ∧ orderF.leadward = false ∧
    (lead .leading .placed).consist.leadEnd ≠ some .e2 ∧ (lead .leading .placed).lead.role = true ∧
    (lead .leading .placed).holdsPosition = true := by
  unfold Heard State.atRest; decide +kernel

theorem witness_CabRefusalsAreCounted :
    (Instr.order .cab (cut 0 orderF)).arriving = some (.cab, orderF) ∧ Heard .cab orderF cab ∧ cab.lead.role = false ∧
    Heard .cab (mkFrame .call false false 0 255 0 [1]) failedLead ∧ failedLead.lead.role = true := by
  unfold Heard State.atRest; decide +kernel

theorem witness_CabRefusalsAreCounted_requests :
    (Instr.stop .cab (cut 1 (cabRequest 2 [10]))).arriving = some (.cab, cabRequest 2 [10]) ∧
    (∀ d ∈ [1, 2, 33], Heard .cab (cabRequest d [10]) failedLead) ∧ failedLead.holdsPosition = false ∧
    Heard .cab (cabRequest 2 [10]) (hearing .cab (leadIn .leading .placed 3 State.reset)) ∧
    (hearing .cab (leadIn .leading .placed 3 State.reset)).endNode = true := by
  unfold Heard State.atRest; decide +kernel

theorem witness_CabRefusalsAreCounted_sentOn :
    (∀ d ∈ [2, 32], Heard .cab (cabRequest d [10]) (hearing .cab (lead .leading .placed))) ∧
    (lead .leading .placed).lead.role = true ∧ (lead .leading .placed).holdsPosition = true ∧
    (lead .leading .placed).consist.leadEnd = some .e1 ∧ (lead .leading .placed).alive .e2 = true ∧
    (hearing .cab (lead .leading .placed)).roomFor (.line .e2) 1 := by
  unfold Heard State.atRest State.roomFor; decide +kernel

theorem witness_RequestsAreRouted :
    (Instr.startRollCall (.line .e1) (cut 1 (requestTo 3))).arriving = some (.line .e1, requestTo 3) ∧
    Heard (.line .e1) (requestTo 3) (middle .placed) ∧ (middle .placed).holdsPosition = true ∧
    (middle .placed).consist.position = 2 ∧ (middle .placed).consist.leadEnd = some .e1 ∧
    (middle .placed).lead.role = false ∧ acceptedOnEnd (requestTo 3) = true ∧ (middle .placed).alive .e2 = true ∧
    (middle .placed).roomFor (.line .e2) 1 := by
  unfold Heard State.atRest State.roomFor; decide +kernel

theorem witness_RequestsAreRouted_dropped :
    Heard (.line .e1) (requestTo 1) (middle .placed) ∧ acceptedOnEnd (requestTo 1) = true ∧
    Heard (.line .e1) (requestTo 3) (second .placed) ∧ (second .placed).alive .e2 = false := by
  unfold Heard State.atRest; decide +kernel

theorem witness_RequestsAreRouted_own :
    (∀ pl ∈ [[1, 88, 1], [1, 0, 16], [6], [9], [10], [11, 1, 2, 3, 4, 5]],
      Heard (.line .e1) (mkFrame .request false false 1 2 1 pl) (middle .placed) ∧
      acceptedOnEnd (mkFrame .request false false 1 2 1 pl) = true) ∧
    (Instr.readEvents (.line .e1) (cut 1 (mkFrame .request false false 1 2 1 [6]))).arriving =
      some (.line .e1, mkFrame .request false false 1 2 1 [6]) ∧
    (middle .placed).mgmt.state ≠ .resetPending ∧ (middle .placed).roomFor (.line .e1) 1 := by
  unfold Heard State.atRest State.roomFor; decide +kernel

theorem witness_LeadwardFramesReachTheCab :
    (Instr.tail (.line .e2) (cut 0 tailF)).arriving = some (.line .e2, tailF) ∧
    Heard (.line .e2) tailF (hearing (.line .e2) (middle .placed)) ∧ (middle .placed).holdsPosition = true ∧
    1 < (middle .placed).consist.position ∧ (middle .placed).consist.leadEnd = some .e1 ∧ acceptedOnEnd tailF = true ∧
    tailF.leadward = true ∧ (hearing (.line .e2) (middle .placed)).roomFor (.line .e1) 1 := by
  unfold Heard State.atRest State.roomFor; decide +kernel

theorem witness_LeadwardFramesReachTheCab_lead :
    Heard (.line .e2) (frameOf (inward .reply 3 [1, 0]) .reply []) (lead .leading .placed) ∧
    (lead .leading .placed).holdsPosition = true ∧ (lead .leading .placed).consist.position = 1 ∧
    (lead .leading .placed).lead.role = true ∧ (lead .leading .placed).consist.leadEnd = some .e1 ∧
    acceptedOnEnd (frameOf (inward .reply 3 [1, 0]) .reply []) = true ∧ (lead .leading .placed).roomFor .cab 1 := by
  unfold Heard State.atRest State.roomFor; decide +kernel

theorem witness_CallPlacesNode :
    Heard (.line .e1) (frameOf (outward .call 1 [1]) .call []) (hearing (.line .e1) State.reset) ∧
    acceptedOnEnd (frameOf (outward .call 1 [1]) .call []) = true ∧
    (hearing (.line .e1) State.reset).lead.role = false ∧ Frame.hop (frameOf (outward .call 1 [1]) .call []) = 1 ∧
    (hearing (.line .e1) State.reset).roomFor (.line .e1) 2 ∧
    (hearing (.line .e1) State.reset).roomFor (.line .e2) 1 ∧ (hearing (.line .e1) State.reset).alive .e2 = false ∧
    Heard (.line .e1) (frameOf (outward .call 1 [1]) .call []) (middle .placed) ∧ (middle .placed).alive .e2 = true := by
  unfold Heard State.atRest State.roomFor; decide +kernel

theorem witness_CallPlacesNode_last :
    Heard (.line .e1) (frameOf (outward .call 31 [1]) .call []) (hearing (.line .e1) State.reset) ∧
    acceptedOnEnd (frameOf (outward .call 31 [1]) .call []) = true ∧
    (hearing (.line .e1) State.reset).lead.role = false ∧ Frame.hop (frameOf (outward .call 31 [1]) .call []) = 31 ∧
    (hearing (.line .e1) State.reset).roomFor (.line .e1) 2 ∧
    (hearing (.line .e1) State.reset).roomFor (.line .e2) 1 ∧ (hearing (.line .e1) State.reset).alive .e2 = false ∧
    Heard (.line .e1) (frameOf (outward .call 31 [1]) .call []) (middle .placed) ∧ (middle .placed).alive .e2 = true := by
  unfold Heard State.atRest State.roomFor; decide +kernel

theorem witness_CallPlacesNode_disregarded :
    Heard (.line .e1) (frameOf (outward .call 0 [1]) .call []) (hearing (.line .e1) State.reset) ∧
    acceptedOnEnd (frameOf (outward .call 0 [1]) .call []) = true ∧
    Frame.hop (frameOf (outward .call 0 [1]) .call []) = 0 := by
  unfold Heard State.atRest; decide +kernel

theorem witness_CallPlacesNode_overflow :
    (∀ h ∈ [32, 63], Heard (.line .e1) (frameOf (outward .call h [1]) .call []) (hearing (.line .e1) State.reset) ∧
      Heard (.line .e1) (frameOf (outward .call h [1]) .call []) (middle .placed) ∧
      acceptedOnEnd (frameOf (outward .call h [1]) .call []) = true ∧
      Frame.hop (frameOf (outward .call h [1]) .call []) = h) ∧
    State.reset.consist.state = .unplaced ∧ (middle .placed).roomFor (.line .e1) 1 ∧
    (hearing (.line .e1) State.reset).roomFor (.line .e1) 1 := by
  unfold Heard State.atRest State.roomFor; decide +kernel

theorem witness_CallAtLeadIsConflict :
    Heard (.line .e2) (frameOf (outward .call 1 [1]) .call []) (lead .leading .placed) ∧
    acceptedOnEnd (frameOf (outward .call 1 [1]) .call []) = true ∧ (lead .leading .placed).lead.role = true ∧
    (lead .leading .placed).roomFor (.line .e2) 1 ∧ (lead .leading .placed).consist.state ≠ .conflict := by
  unfold Heard State.atRest State.roomFor; decide +kernel

theorem witness_AnswersAreStored :
    Heard (.line .e2) (frameOf answerTwo .answer []) (lead .calling .placing) ∧
    (lead .calling .placing).holdsPosition = true ∧ (lead .calling .placing).consist.position = 1 ∧
    (lead .calling .placing).lead.role = true ∧ (lead .calling .placing).lead.state = .calling ∧
    (lead .calling .placing).consist.leadEnd = some .e1 ∧ acceptedOnEnd (frameOf answerTwo .answer []) = true ∧
    (CoachRecord.ofBytes answerTwo.body).position = 2 ∧
    (CoachRecord.ofBytes answerTwo.body).identity ≠ (lead .calling .placing).identity := by
  unfold Heard State.atRest; decide +kernel

theorem witness_ConflictTailFailsRollCall :
    Heard (.line .e2) (frameOf conflictTail .tail []) (lead .calling .placing) ∧
    (lead .calling .placing).consist.state = .placing ∧ (lead .calling .placing).consist.position = 1 ∧
    (lead .calling .placing).lead.role = true ∧ (lead .calling .placing).lead.state = .calling ∧
    (lead .calling .placing).consist.leadEnd = some .e1 ∧ acceptedOnEnd (frameOf conflictTail .tail []) = true ∧
    (byteAt conflictTail.body 1).getLsbD 1 = true ∧ (lead .calling .placing).roomFor .cab 1 := by
  unfold Heard State.atRest State.roomFor; decide +kernel

theorem witness_ConflictTailFailsRollCall_overflow :
    LeadHears .e2 .tail (tailOf 32 1) (lead .calling .placing) ∧ (lead .calling .placing).lead.state = .calling ∧
    (byteAt (tailOf 32 1).body 1).getLsbD 1 = false ∧ (byteAt (tailOf 32 1).body 1).getLsbD 0 = true ∧
    (lead .calling .placing).roomFor .cab 1 := by
  unfold LeadHears Heard State.atRest State.roomFor; decide +kernel

theorem witness_FailedAttemptCallsAgain :
    (startWindow (lead .calling .placing)).supplyLow = false ∧ (startWindow (lead .calling .placing)).atRest ∧
    (startWindow (lead .calling .placing)).lead.window.isSome = true ∧
    (startWindow (lead .calling .placing)).lead.state = .calling ∧
    (startWindow (lead .calling .placing)).consist.leadEnd = some .e1 ∧
    (startWindow (lead .calling .placing)).lead.attempt < 3 ∧
    (startWindow (lead .calling .placing)).alive .e2 = true ∧
    (startWindow (lead .calling .placing)).roomFor (.line .e2) 1 := by
  unfold State.atRest State.roomFor; decide +kernel

theorem witness_FailedAttemptCallsAgain_third :
    (trying .calling 3).supplyLow = false ∧ (trying .calling 3).atRest ∧ (trying .calling 3).lead.window.isSome = true ∧
    (trying .calling 3).lead.state = .calling ∧ (trying .calling 3).lead.attempt = 3 ∧
    (trying .calling 3).consist.leadEnd = some .e1 ∧ (trying .calling 3).consist.state = .placing ∧
    (trying .calling 3).roomFor .cab 1 := by
  unfold State.atRest State.roomFor; decide +kernel

theorem witness_FailedAttemptCallsAgain_gaps :
    (∀ n ∈ [2, 3], ∀ l ∈ [1, 4, 33], LeadHears .e2 .tail (tailOf l 0) (trying .calling n) ∧
      (byteAt (tailOf l 0).body 1).getLsbD 1 = false ∧ (byteAt (tailOf l 0).body 1).getLsbD 0 = false ∧
      (byteAt (tailOf l 0).body 0) = l) ∧
    (trying .calling 2).alive .e2 = true ∧ (trying .calling 2).lead.attempt = 2 ∧
    recordAt (trying .calling 2).consist.table 4 = none ∧ (trying .calling 2).roomFor (.line .e2) 1 ∧
    (trying .calling 3).roomFor .cab 1 := by
  unfold LeadHears Heard State.atRest State.roomFor; decide +kernel

theorem witness_RosterEntriesAreStored :
    Heard (.line .e1) (frameOf rosterThree .roster []) (middle .placing) ∧ (middle .placing).alive .e1 = true ∧
    (middle .placing).alive .e2 = true ∧ (middle .placing).consist.state = .placing ∧
    (middle .placing).consist.position = 2 ∧ (middle .placing).consist.leadEnd = some .e1 ∧
    (middle .placing).lead.role = false ∧ acceptedOnEnd (frameOf rosterThree .roster []) = true ∧
    (middle .placing).roomFor (.line .e2) 1 ∧ (byteAt rosterThree.body 1).toNat = 1 ∧
    (byteAt rosterThree.body 0).toNat = 3 ∧ (coach 2).identity ≠ (middle .placing).identity ∧
    Heard (.line .e1) (frameOf rosterThree .roster []) (second .placing) ∧ (second .placing).alive .e2 = false := by
  unfold Heard State.atRest State.roomFor; decide +kernel

theorem witness_RosterEntriesAreStored_four :
    Heard (.line .e1) (frameOf rosterFour .roster []) (middle .placing) ∧
    acceptedOnEnd (frameOf rosterFour .roster []) = true ∧ (middle .placing).roomFor (.line .e2) 1 ∧
    (byteAt rosterFour.body 0).toNat = 1 ∧
    (List.range 4).map (rosterStores rosterFour.body (middle .placing)) = [true, false, false, true] ∧
    (rosterRecord rosterFour.body 0).identity = (rosterRecord rosterFour.body 3).identity := by
  unfold Heard State.atRest State.roomFor; decide +kernel

theorem witness_RosterEntriesAreStored_placed :
    ∀ st ∈ [ConsistState.placed, .stale],
      Heard (.line .e1) (frameOf rosterFour .roster []) (middle st) ∧ (middle st).alive .e1 = true ∧
      (middle st).placedOrStale = true ∧ (middle st).consist.position ≤ 32 ∧
      (middle st).consist.leadEnd = some .e1 ∧ (middle st).lead.role = false ∧
      (middle st).roomFor (.line .e2) 1 ∧ (middle st).alive .e2 = true ∧
      Heard (.line .e1) (frameOf rosterFour .roster []) (second st) ∧ (second st).alive .e2 = false := by
  unfold Heard State.atRest State.roomFor; decide +kernel

theorem witness_SendListFillsFreeSlots :
    rostering.supplyLow = false ∧ rostering.atRest ∧ rostering.lead.state = .rostering ∧
    rostering.holdsPosition = true ∧ rostering.consist.leadEnd = some .e1 ∧ rostering.alive .e2 = true ∧
    rostering.lead.sendList = List.replicate 4 (leadFrame .roster ([1, 1] ++ (coach 0).bytes)) ++
      [leadFrame .roster ([1, 1] ++ (coach 0).bytes)] ∧
    (rostering.port (.line .e2)).queue.length = 0 := by
  unfold State.atRest; decide +kernel

theorem witness_SendListFillsFreeSlots_last :
    (∀ n ∈ [0, 2], (queueOf (.line .e2) n lastRosters).supplyLow = false ∧ (queueOf (.line .e2) n lastRosters).atRest ∧
      (queueOf (.line .e2) n lastRosters).lead.state = .rostering ∧
      (queueOf (.line .e2) n lastRosters).holdsPosition = true ∧
      (queueOf (.line .e2) n lastRosters).consist.leadEnd = some .e1 ∧
      (queueOf (.line .e2) n lastRosters).alive .e2 = true ∧ (queueOf (.line .e2) n lastRosters).roomFor .cab 1 ∧
      (queueOf (.line .e2) n lastRosters).lead.sendList.length = 2 ∧
      (∀ f ∈ (queueOf (.line .e2) n lastRosters).lead.sendList, f.kind = .roster) ∧
      (queueOf (.line .e2) n lastRosters).pu2.queue.length = n) := by
  unfold State.atRest State.roomFor; decide +kernel

theorem witness_SendListFillsFreeSlots_begun :
    LeadHears .e2 .tail (tailOf 3 0) (trying .calling 1) ∧ (trying .calling 1).alive .e2 = true ∧
    (trying .calling 1).lead.state = .calling ∧ (byteAt (tailOf 3 0).body 1).getLsbD 1 = false ∧
    (byteAt (tailOf 3 0).body 1).getLsbD 0 = false ∧ (byteAt (tailOf 3 0).body 0).toNat = 3 ∧
    (∀ p ≤ 3, 1 ≤ p → recordAt (trying .calling 1).consist.table p ≠ none) ∧ (trying .calling 1).pu2.queue = [] ∧
    (trying .calling 1).roomFor .cab 1 := by
  unfold LeadHears Heard State.atRest State.roomFor; decide +kernel

theorem witness_ConfirmPlacesNode :
    Heard (.line .e1) (frameOf confirmThree .confirm []) (middle .placing) ∧ (middle .placing).alive .e1 = true ∧
    (middle .placing).consist.state = .placing ∧ (middle .placing).consist.leadEnd = some .e1 ∧
    (middle .placing).lead.role = false ∧ acceptedOnEnd (frameOf confirmThree .confirm []) = true ∧
    (frameOf confirmThree .confirm []).leadward = false ∧ (byteAt confirmThree.body 0).toNat = 3 ∧
    (middle .placing).consist.position = 2 ∧ (∀ p ≤ 3, 1 ≤ p → recordAt (middle .placing).consist.table p ≠ none) ∧
    consistCheck (middle .placing).consist.table 3 = wordAt confirmThree.body 1 ∧
    (middle .placing).roomFor (.line .e1) 1 ∧ (middle .placing).roomFor (.line .e2) 1 ∧
    (middle .placing).alive .e2 = true ∧ Heard (.line .e1) (frameOf confirmThree .confirm []) (second .placing) ∧
    (second .placing).alive .e2 = false := by
  unfold Heard State.atRest State.roomFor; decide +kernel

theorem witness_ConfirmPlacesNode_disagrees :
    (∀ f ∈ [confirmOf 0 0 0, confirmOf 33 0 0, confirmOf 1 0 0, confirmOf 4 0 1, confirmOf 3 1 0],
      Heard (.line .e1) (frameOf f .confirm []) (middle .placing) ∧
      Heard (.line .e1) (frameOf f .confirm []) (second .placing) ∧
      acceptedOnEnd (frameOf f .confirm []) = true ∧ (frameOf f .confirm []).leadward = false) ∧
    (middle .placing).consist.position = (2 : Byte).toNat ∧ byteAt (confirmOf 0 0 0).body 0 = 0 ∧
    32 < (byteAt (confirmOf 33 0 0).body 0).toNat ∧ (byteAt (confirmOf 1 0 0).body 0).toNat < 2 ∧
    recordAt (middle .placing).consist.table (byteAt (confirmOf 4 0 1).body 0).toNat = none ∧
    consistCheck (middle .placing).consist.table 3 ≠ wordAt (confirmOf 3 1 0).body 1 ∧
    byteAt (confirmOf 3 1 0).body 3 = 0 ∧ byteAt (confirmOf 4 0 1).body 3 ≠ 0 := by
  unfold Heard State.atRest; decide +kernel

theorem witness_ConfirmPlacesNode_placed :
    ∀ st ∈ [ConsistState.placed, .stale],
      Heard (.line .e1) (frameOf confirmThree .confirm []) (middle st) ∧ (middle st).alive .e1 = true ∧
      (middle st).placedOrStale = true ∧ (middle st).consist.position ≤ 32 ∧
      (middle st).consist.leadEnd = some .e1 ∧ (middle st).lead.role = false ∧
      (middle st).roomFor (.line .e1) 1 ∧ (middle st).roomFor (.line .e2) 1 ∧ (middle st).alive .e2 = true ∧
      Heard (.line .e1) (frameOf confirmThree .confirm []) (second st) ∧ (second st).alive .e2 = false := by
  unfold Heard State.atRest State.roomFor; decide +kernel

theorem witness_ConfirmedLeadLeads :
    Heard (.line .e2) (frameOf confirmBack .confirm []) (lead .confirming .placing) ∧
    (lead .confirming .placing).alive .e2 = true ∧ (lead .confirming .placing).consist.state = .placing ∧
    (lead .confirming .placing).consist.position = 1 ∧ (lead .confirming .placing).lead.role = true ∧
    (lead .confirming .placing).lead.state = .confirming ∧ (lead .confirming .placing).consist.leadEnd = some .e1 ∧
    acceptedOnEnd (frameOf confirmBack .confirm []) = true ∧ (frameOf confirmBack .confirm []).leadward = true ∧
    (frameOf confirmBack .confirm []).hop = (lead .confirming .placing).consist.length ∧
    (byteAt confirmBack.body 0).toNat = (lead .confirming .placing).consist.length ∧
    wordAt confirmBack.body 1 = (lead .confirming .placing).consist.check ∧ byteAt confirmBack.body 3 = 0 := by
  unfold Heard State.atRest; decide +kernel

theorem witness_ConfirmedLeadLeads_again :
    (∀ n ∈ [2, 3], ∀ f ∈ [reflected .confirm 2 confirmBack.body, reflected .confirm 3 [3, 0, 0, 0],
        reflected .confirm 3 (confirmBack.body.take 3 ++ [2])],
      LeadHears .e2 .confirm f (trying .confirming n) ∧ (frameOf f .confirm []).leadward = true ∧
      ¬ ((frameOf f .confirm []).hop = 3 ∧ (byteAt f.body 0).toNat = 3 ∧
        wordAt f.body 1 = (trying .confirming n).consist.check ∧ byteAt f.body 3 = 0)) ∧
    (trying .confirming 2).alive .e2 = true ∧ (trying .confirming 2).lead.state = .confirming ∧
    (trying .confirming 2).consist.length = 3 ∧ (trying .confirming 2).lead.round = 2 ∧
    (trying .confirming 3).lead.round = 3 ∧ (trying .confirming 2).roomFor .cab 1 ∧
    (trying .confirming 2).pu2.queue = [] := by
  unfold LeadHears Heard State.atRest State.roomFor; decide +kernel

theorem witness_ConfirmedLeadLeads_window :
    (∀ ls ∈ [.rostering, .confirming], ∀ n ∈ [2, 3], (trying ls n).supplyLow = false ∧ (trying ls n).atRest ∧
      (trying ls n).lead.window.isSome = true ∧ (trying ls n).lead.state = ls ∧
      (trying ls n).consist.state = .placing ∧ (trying ls n).consist.position = 1 ∧
      (trying ls n).consist.leadEnd = some .e1 ∧ (trying ls n).alive .e2 = true ∧ (trying ls n).roomFor .cab 1 ∧
      (trying ls n).lead.round = n ∧ (trying ls n).pu2.queue = []) := by
  unfold State.atRest State.roomFor; decide +kernel

theorem witness_ConsistTimersExpire :
    (startLeadLoss (second .placed)).supplyLow = false ∧
    (startLeadLoss (second .placed)).consist.leadLoss.isSome = true ∧ (startPlacing (second .placing)).atRest ∧
    (startPlacing (second .placing)).consist.state = .placing ∧
    (startPlacing (second .placing)).consist.placing.isSome = true := by
  unfold State.atRest; decide +kernel

theorem witness_SurveyIsWritten :
    Heard (.line .e1) (frameOf surveyOut .survey []) (middle .placed) ∧ (middle .placed).alive .e1 = true ∧
    (middle .placed).placedOrStale = true ∧ (middle .placed).consist.position = (2 : Byte).toNat ∧
    (middle .placed).consist.leadEnd = some .e1 ∧ (middle .placed).lead.role = false ∧
    acceptedOnEnd (frameOf surveyOut .survey []) = true ∧ (frameOf surveyOut .survey []).leadward = false ∧
    (middle .placed).roomFor (.line .e1) 1 ∧ (middle .placed).roomFor (.line .e2) 1 ∧
    (middle .placed).alive .e2 = true ∧ Heard (.line .e1) (frameOf surveyOut .survey []) (second .placed) ∧
    (second .placed).alive .e2 = false := by
  unfold Heard State.atRest State.roomFor; decide +kernel

theorem witness_ReflectedSurveyIsRecorded :
    Heard (.line .e2) (frameOf surveyBack .survey []) awaiting ∧ awaiting.alive .e2 = true ∧
    awaiting.holdsPosition = true ∧ awaiting.consist.position = 1 ∧ awaiting.lead.role = true ∧
    awaiting.consist.leadEnd = some .e1 ∧ acceptedOnEnd (frameOf surveyBack .survey []) = true ∧
    (frameOf surveyBack .survey []).leadward = true ∧ awaiting.lead.state = .leading ∧
    awaiting.survey.outstanding = some (byteAt surveyBack.body 0) ∧ awaiting.item Item.autoRecall ≠ 1 ∧
    awaiting.roomFor .cab 1 ∧ (lead .leading .placed).survey.outstanding ≠ some (byteAt surveyBack.body 0) ∧
    Heard (.line .e2) (frameOf surveyBack .survey []) (lead .leading .placed) := by
  unfold Heard State.atRest State.roomFor; decide +kernel

theorem witness_SurveysAreBuilt :
    (startSurveyPeriod (lead .leading .placed)).supplyLow = false ∧
    (startSurveyPeriod (lead .leading .placed)).atRest ∧
    (startSurveyPeriod (lead .leading .placed)).survey.period.isSome = true ∧
    (startSurveyPeriod (lead .leading .placed)).holdsPosition = true ∧
    (startSurveyPeriod (lead .leading .placed)).consist.leadEnd = some .e1 ∧
    (startSurveyPeriod (lead .leading .placed)).alive .e2 = true ∧
    (startSurveyPeriod (lead .leading .placed)).roomFor (.line .e2) 1 ∧
    (startSurveyPeriod (lead .leading .placed)).survey.outstanding = none ∧
    (startSurveyPeriod awaiting).item Item.autoRecall ≠ 1 ∧
    (startSurveyPeriod awaiting).survey.outstanding.isSome = true := by
  unfold State.atRest State.roomFor; decide +kernel

theorem witness_SurveysAreBuilt_alone :
    severed.supplyLow = false ∧ severed.atRest ∧ severed.survey.period.isSome = true ∧ severed.placedOrStale = true ∧
    severed.lead.state = .leading ∧ severed.consist.leadEnd = some .e1 ∧ severed.alive .e2 = false ∧
    severed.survey.outstanding.isSome = true ∧ severed.item Item.autoRecall ≠ 1 ∧ severed.roomFor .cab 2 ∧
    severed.consist.length ≠ 1 := by
  unfold State.atRest State.roomFor; decide +kernel

theorem witness_SurveysAreBuilt_third :
    (startSurveyPeriod { awaiting with survey := { awaiting.survey with misses := 2 } }).atRest ∧
    (startSurveyPeriod { awaiting with survey := { awaiting.survey with misses := 2 } }).survey.misses = 2 ∧
    (startSurveyPeriod { awaiting with survey := { awaiting.survey with misses := 2 } }).roomFor .cab 1 := by
  unfold State.atRest State.roomFor; decide +kernel

theorem witness_IgnoreEndsTheScan :
    ignoring.orders.list[1]? = some (plainOrder 1 .ignore 0) ∧
    entryMatches 1 ignoring (plainOrder 1 .ignore 0) = true ∧
    ∀ j x, j < 1 → ignoring.orders.list[j]? = some x → entryMatches 1 ignoring x = false := by
  refine ⟨by decide +kernel, by decide +kernel, ?_⟩
  intro j x hj hx
  obtain rfl : j = 0 := by omega
  have h0 : ignoring.orders.list[0]? = some blankOrder := by decide +kernel
  rw [h0] at hx; cases hx; decide +kernel

theorem witness_OrdersOfTheCabAreHandled :
    Heard .cab (frameOf (outward .order 0 [5, 0, 0, 0]) .order []) failedLead ∧ failedLead.lead.role = true ∧
    failedLead.holdsPosition = false ∧ failedLead.selected 5 = some (4, plainOrder 5 .heatCap 0) ∧
    Heard .cab (frameOf (outward .order 0 [60, 0, 0, 0]) .order []) failedLead ∧ failedLead.selected 60 = none := by
  unfold Heard State.atRest; decide +kernel

theorem witness_OrdersOfTheCabAreHandled_sentOn :
    Heard .cab (frameOf (outward .order 0 [1, 0, 0, 0]) .order []) (hearing .cab (lead .leading .placed)) ∧
    (lead .leading .placed).lead.role = true ∧ (lead .leading .placed).holdsPosition = true ∧
    (lead .leading .placed).consist.leadEnd = some .e1 ∧ (lead .leading .placed).alive .e2 = true ∧
    (hearing .cab (lead .leading .placed)).roomFor (.line .e2) 1 := by
  unfold Heard State.atRest State.roomFor; decide +kernel

theorem witness_OrdersOfTheCabAreHandled_anywhere :
    (∀ p ∈ [0, 5], { State.reset with orders := State.reset.orders.set 0 (plainOrder 1 .chime p) }.selected 1 =
      some (0, plainOrder 1 .chime p)) ∧
    (second .placed).selected 1 = some (0, plainOrder 1 .release 0) ∧
    (second .placed).selected 2 = some (1, plainOrder 2 .close 0) ∧
    (second .placed).selected 3 = some (2, plainOrder 3 .doorReset 0) ∧
    2 < (3 : Byte).toNat ∧ 32 < (33 : Byte).toNat ∧ (second .placed).holdsPosition = true ∧
    (second .placed).consist.position < (3 : Byte).toNat ∧ (1 : Byte).toNat < (second .placed).consist.position := by
  decide +kernel

theorem witness_ReleaseOpensTheNamedSide :
    Heard (.line .e1) (frameOf (cut 0 orderF) .order []) (standing .placed) ∧ (standing .placed).alive .e1 = true ∧
    (standing .placed).alive .e2 = true ∧ (standing .placed).placedOrStale = true ∧
    (standing .placed).consist.state = .placed ∧ (standing .placed).consist.position = 2 ∧
    (standing .placed).consist.leadEnd = some .e1 ∧ (standing .placed).lead.role = false ∧
    acceptedOnEnd (frameOf (cut 0 orderF) .order []) = true ∧ (standing .placed).roomFor (.line .e2) 1 ∧
    (standing .placed).selected 1 = some (0, plainOrder 1 .release 0) ∧
    ((standing .placed).channel .a).state = .locked ∧ (standing .placed).active .zsp = true := by
  unfold Heard State.atRest State.roomFor; decide +kernel

theorem witness_ReleaseOpensTheNamedSide_stale :
    Heard (.line .e1) (frameOf (cut 0 orderF) .order []) (standing .stale) ∧ (standing .stale).alive .e1 = true ∧
    (standing .stale).alive .e2 = true ∧ (standing .stale).placedOrStale = true ∧
    (standing .stale).consist.state = .stale ∧ (standing .stale).consist.position = 2 ∧
    (standing .stale).consist.leadEnd = some .e1 ∧ (standing .stale).lead.role = false ∧
    acceptedOnEnd (frameOf (cut 0 orderF) .order []) = true ∧ (standing .stale).roomFor (.line .e2) 1 ∧
    (standing .stale).selected 1 = some (0, plainOrder 1 .release 0) ∧
    ((standing .stale).channel .a).state = .locked ∧ (standing .stale).active .zsp = true := by
  unfold Heard State.atRest State.roomFor; decide +kernel

/-- Each row of R110's decision: the channel states, at standstill and not, with a consist and without one. -/
theorem witness_ReleaseOpensTheNamedSide_rows :
    (∀ st ∈ [DoorState.fault, .isolated, .released, .locked, .warning, .closing, .recycle],
      (doorsIn st (standing .placed)).selected 1 = some (0, plainOrder 1 .release 0) ∧
      inRange ⟨1, 2, 1, 32⟩ (doorsIn st (standing .placed)) = true ∧
      addressed 2 (doorsIn st (standing .placed)) .a = true ∧ ((doorsIn st (standing .placed)).channel .a).state = st) ∧
    argumentsGood ⟨1, 2, 1, 32⟩ = true ∧ (standing .placed).active .zsp = true ∧
    (settle .zsp false (standing .placed)).active .zsp = false ∧ (standing .stale).consist.state ≠ .placed ∧
    addressed 1 (standing .placed) .a = false ∧ addressed 0 (standing .placed) .b = false := by decide +kernel

theorem witness_ReleaseOpensTheNamedSide_order :
    (∀ e2 ∈ [true, false], ∀ st ∈ [ConsistState.placing, .placed, .stale],
      Heard (.line .e1) (frameOf (cut 0 orderF) .order []) (if e2 then middle st else second st) ∧
      (if e2 then middle st else second st).holdsPosition = true ∧
      (if e2 then middle st else second st).consist.position ≤ 32 ∧
      (if e2 then middle st else second st).consist.leadEnd = some .e1 ∧
      (if e2 then middle st else second st).lead.role = false ∧
      (if e2 then middle st else second st).alive .e2 = e2 ∧
      (if e2 then middle st else second st).roomFor (.line .e2) 1) ∧
    acceptedOnEnd (frameOf (cut 0 orderF) .order []) = true ∧
    (frameOf (cut 0 orderF) .order []).leadward = false := by
  unfold Heard State.atRest State.roomFor; decide +kernel

theorem witness_DoorResetClearsFaults :
    (doorsIn .fault State.reset).selected 3 = some (2, plainOrder 3 .doorReset 0) ∧
    inRange ⟨3, 0, 0, 0⟩ (doorsIn .fault State.reset) = true ∧ (doorsIn .fault State.reset).doors.a.hold = false ∧
    (doorsIn .released State.reset).selected 2 = some (1, plainOrder 2 .close 0) ∧
    inRange ⟨2, 0, 0, 0⟩ (doorsIn .released State.reset) = true := by decide +kernel

theorem witness_WarningAndRecycleEndInClosing :
    warned.supplyLow = false ∧ warned.atRest ∧ (warned.channel .a).timer = some 900 ∧
    (warned.channel .a).state = .warning ∧ warned.allClosed .a = false ∧ (leavesClosed warned).atRest ∧
    (leavesClosed warned).allClosed .a = true ∧ (doorsIn .recycle State.reset).atRest ∧
    ((doorsIn .recycle State.reset).channel .a).state = .recycle := by
  unfold State.atRest; decide +kernel

theorem witness_WarningAndRecycleEndInClosing_leaf :
    (turning (.leaf .a 0) true (doorsIn .recycle State.reset)).supplyLow = false ∧
    (turning (.leaf .a 0) true (doorsIn .recycle State.reset)).atRest ∧
    ((turning (.leaf .a 0) true (doorsIn .recycle State.reset)).channel .a).hold = false ∧
    ((turning (.leaf .a 0) true (doorsIn .recycle State.reset)).channel .a).state = .recycle ∧
    ((turning (.leaf .a 0) true (doorsIn .recycle State.reset)).input (.leaf .a 0)).timer = some 20 := by
  unfold State.atRest; decide +kernel

theorem witness_CloseTimeoutRecyclesOrFaults :
    (doorsIn .closing State.reset).supplyLow = false ∧ (doorsIn .closing State.reset).atRest ∧
    ((doorsIn .closing State.reset).channel .a).timer = some 900 ∧
    ((doorsIn .closing State.reset).channel .a).state = .closing ∧
    ((doorsIn .closing State.reset).channel .a).retries < (doorsIn .closing State.reset).itemN Item.maxRetries ∧
    ((doorsIn .closing State.reset).setChannel .a ⟨.closing, false, some 900, 3, .none⟩).atRest ∧
    ((doorsIn .closing State.reset).setChannel .a ⟨.closing, false, some 900, 3, .none⟩).doors.a.retries = 3 ∧
    (doorsIn .closing State.reset).itemN Item.maxRetries = 3 := by
  unfold State.atRest; decide +kernel

theorem witness_ToneFollowsDemand :
    chiming.supplyLow = false ∧ chiming.atRest ∧ chiming.doors.chime = some 3000 ∧
    chiming.doors.tone = some ⟨0, .interrupted, true, some 500⟩ := by
  unfold State.atRest; decide +kernel

theorem witness_SupplySamplesShed :
    capped.supplyLow = false ∧ capped.atRest ∧ capped.heat.sample = some 10 ∧ capped.heat.monitor = .normal ∧
    capped.heat.window.length = 8 ∧ (capped.heat.window.tail ++ [0]).sum / 8 < capped.itemN Item.shedV ∧
    capped.itemN Item.shedV ≤ (capped.heat.window.tail ++ [4095 * 8]).sum / 8 := by
  unfold State.atRest; decide +kernel

theorem witness_SupplySamplesShed_settling :
    (∀ n ∈ [6, 7], (sampled .settling n).supplyLow = false ∧ (sampled .settling n).atRest ∧
      (sampled .settling n).heat.sample = some 10 ∧ (sampled .settling n).heat.window.length = n) ∧
    (sampled .shed 8).atRest ∧ (sampled .shed 8).heat.sample = some 10 ∧ (sampled .shed 8).heat.window.length = 8 ∧
    (sampled .shed 8).heat.restartBlock = true ∧ (sampled .shed 8).itemN Item.restoreV ≤ (7000 + 4095) / 8 ∧
    ¬ (sampled .shed 8).itemN Item.restoreV ≤ 7000 / 8 := by
  unfold State.atRest; decide +kernel

theorem witness_StagesCloseWhenDue :
    (raising false none).supplyLow = false ∧ (raising false none).atRest ∧
    (raising false none).heat.raise = some ⟨700, false⟩ ∧
    (raising false none).heat.minOff.getD (raising false none).heat.level none = none ∧
    (raising false (some 800)).atRest ∧ (raising false (some 800)).heat.minOff.getD 1 none = some 800 ∧
    (raising true (some 800)).atRest ∧ (raising true (some 800)).heat.raise = some ⟨700, true⟩ ∧
    (raising true (some 800)).heat.level = (1 : Fin 4).val ∧ (raising true (some 800)).heat.level ≠ (2 : Fin 4).val ∧
    (raising true (some 800)).heat.minOff.getD 2 none = some 800 := by
  unfold State.atRest; decide +kernel

theorem witness_HoldoverLowersTarget :
    (raising false none).supplyLow = false ∧ (raising false none).atRest ∧
    (raising false none).heat.holdover = some 90000 ∧ (raising false none).itemN Item.minOff ≠ 0 := by
  unfold State.atRest; decide +kernel

theorem witness_HeatSetGivesTarget :
    Heard (.line .e1) (frameOf heatSetF .heatSet []) granted ∧ granted.alive .e1 = true ∧
    granted.holdsPosition = true ∧ granted.consist.position = 3 ∧ granted.consist.leadEnd = some .e1 ∧
    granted.lead.role = false ∧ acceptedOnEnd (frameOf heatSetF .heatSet []) = true ∧ granted.roomFor (.line .e2) 1 ∧
    granted.heat.cycleRec = some (byteAt heatSetF.body 0) ∧ granted.alive .e2 = false ∧
    granted.heat.monitor = .normal ∧ Heard (.line .e1) (frameOf heatSetF .heatSet []) (live .e2 granted) ∧
    (live .e2 granted).alive .e2 = true := by
  unfold Heard State.atRest State.roomFor; decide +kernel

theorem witness_HeatSetGivesTarget_unplaced :
    Heard (.line .e1) (frameOf heatSetF .heatSet []) (hearing (.line .e1) State.reset) ∧
    State.reset.holdsPosition = false ∧ acceptedOnEnd (frameOf heatSetF .heatSet []) = true ∧
    (hearing (.line .e1) State.reset).roomFor (.line .e2) 1 := by
  unfold Heard State.atRest State.roomFor; decide +kernel

theorem witness_PassKeepsTheBudget :
    Heard (.line .e1) (frameOf passF .heatPass []) granted ∧ granted.alive .e1 = true ∧ granted.placedOrStale = true ∧
    granted.consist.position = 3 ∧ granted.consist.leadEnd = some .e1 ∧ granted.lead.role = false ∧
    acceptedOnEnd (frameOf passF .heatPass []) = true ∧ (frameOf passF .heatPass []).leadward = false ∧
    granted.roomFor (.line .e1) 1 ∧ granted.roomFor (.line .e2) 1 ∧
    granted.heat.cycleRec = some (byteAt passF.body 0) ∧ granted.heat.grant + 1 = (byteAt passF.body 1).toNat ∧
    4 ≤ granted.eligible (byteAt passF.body 6).toNat ∧ granted.scaledCurrent 4 ≤ (wordAt passF.body 2).toNat := by
  unfold Heard State.atRest State.roomFor; decide +kernel

theorem witness_PassKeepsTheBudget_first :
    (∀ f ∈ [outward .heatPass 2 [6, 1, 200, 0, 1, 0, 4], outward .heatPass 2 [6, 1, 1, 0, 1, 0, 4],
        outward .heatPass 2 [5, 4, 1, 0, 1, 0, 4]],
      Heard (.line .e1) (frameOf f .heatPass []) granted ∧ acceptedOnEnd (frameOf f .heatPass []) = true ∧
      (frameOf f .heatPass []).leadward = false ∧ byteAt f.body 6 = 4) ∧
    granted.heat.cycleRec = some 5 ∧ granted.heat.grant = 3 ∧ granted.eligible 4 = 4 ∧
    (∀ l ∈ [1, 4], 1 < granted.scaledCurrent l ∧ granted.scaledCurrent l ≤ 200) := by
  unfold Heard State.atRest; decide +kernel

theorem witness_LastReflectedPassEndsCycle :
    Heard (.line .e2) (frameOf (passBack 4) .heatPass []) passing ∧ passing.alive .e2 = true ∧
    passing.holdsPosition = true ∧ passing.consist.position = 1 ∧ passing.lead.role = true ∧
    passing.consist.leadEnd = some .e1 ∧ acceptedOnEnd (frameOf (passBack 4) .heatPass []) = true ∧
    (frameOf (passBack 4) .heatPass []).leadward = true ∧ passing.seq.cycle = some ⟨4, 600, 4⟩ ∧
    byteAt (passBack 4).body 0 = passing.seq.number ∧ (byteAt (passBack 4).body 1).toNat = 4 ∧
    passing.roomFor (.line .e2) 1 ∧ Heard (.line .e2) (frameOf (passBack 3) .heatPass []) passing ∧
    (byteAt (passBack 3).body 1).toNat ≠ 4 := by
  unfold Heard State.atRest State.roomFor; decide +kernel

theorem witness_LastReflectedPassEndsCycle_next :
    (∀ l ∈ [1, 3], { passing with seq := { passing.seq with cycle := some ⟨l, 600, 4⟩ } }.seq.cycle = some ⟨l, 600, 4⟩ ∧
      Heard (.line .e2) (frameOf (reflected .heatPass 3 [5, byteOf l, 20, 0, 2, 0, 4]) .heatPass [])
        { passing with seq := { passing.seq with cycle := some ⟨l, 600, 4⟩ } } ∧
      acceptedOnEnd (frameOf (reflected .heatPass 3 [5, byteOf l, 20, 0, 2, 0, 4]) .heatPass []) = true ∧
      (byteOf l).toNat = l) ∧ passing.seq.number = 5 := by
  unfold Heard State.atRest; decide +kernel

theorem witness_CyclesStartAndTimeOut :
    passing.supplyLow = false ∧ passing.atRest ∧ passing.seq.periodTimer = some 30000 ∧
    passing.seq.cycle = some ⟨4, 600, 4⟩ ∧ passing.seq.passTimer = some 900 ∧ (abandonCycle passing).atRest ∧
    (abandonCycle passing).seq.cycle = none ∧ (startHeatingPeriod (lead .leading .placed)).atRest ∧
    (startHeatingPeriod (lead .leading .placed)).seq.periodTimer.isSome = true ∧
    (startHeatingPeriod (lead .leading .placed)).seq.cycle = none ∧ (lead .leading .placed).holdsPosition = true ∧
    (lead .leading .placed).consist.leadEnd = some .e1 ∧ (lead .leading .placed).alive .e2 = true ∧
    (startHeatingPeriod (lead .leading .placed)).roomFor (.line .e2) 1 := by
  unfold State.atRest State.roomFor; decide +kernel

theorem witness_InputsAreFiltered :
    (turning (.cpl .e1) true State.reset).supplyLow = false ∧ (turning (.cpl .e1) true State.reset).atRest ∧
    (turning (.cpl .e1) true State.reset).input (.cpl .e1) = ⟨true, some false, some 20⟩ ∧
    (turning .zsp false (doorsIn .released State.reset)).supplyLow = false ∧
    (turning .zsp false (doorsIn .released State.reset)).atRest ∧
    (turning .zsp false (doorsIn .released State.reset)).input .zsp = ⟨false, some true, some 20⟩ ∧
    ((turning .zsp false (doorsIn .released State.reset)).channel .a).state = .released ∧
    (turning (.iso .a) true (doorsIn .closing State.reset)).supplyLow = false ∧
    (turning (.iso .a) true (doorsIn .closing State.reset)).atRest ∧
    (turning (.iso .a) true (doorsIn .closing State.reset)).input (.iso .a) = ⟨true, some false, some 20⟩ ∧
    ((turning (.iso .a) true (doorsIn .closing State.reset)).channel .a).hold = false ∧
    (State.reset.input .th).timer.isSome = true ∧ (State.reset.setInput .th ⟨true, some true, some 20⟩).atRest := by
  unfold State.atRest; decide +kernel

theorem witness_InputsAreFiltered_doors :
    (turning (.iso .a) false (doorsIn .isolated State.reset)).atRest ∧
    (turning (.iso .a) false (doorsIn .isolated State.reset)).leafCount .a = 2 ∧
    ((turning (.iso .a) false (doorsIn .isolated State.reset)).channel .a).state = .isolated ∧
    (turning (.leaf .a 0) false (doorsIn .locked State.reset)).atRest ∧
    ((turning (.leaf .a 0) false (doorsIn .locked State.reset)).channel .a).state = .locked ∧
    (turning (.leaf .a 0) true (settle (.leaf .a 1) true (doorsIn .closing State.reset))).atRest ∧
    (turning (.leaf .a 0) true (settle (.leaf .a 1) true (doorsIn .closing State.reset))).active (.leaf .a 1) = true ∧
    ((doorsIn .closing State.reset).channel .a).state = .closing := by
  unfold State.atRest; decide +kernel

theorem witness_InputsAreFiltered_first :
    ((settle (.leaf .a 1) true (doorsIn .closing State.reset)).setInput (.leaf .a 0) ⟨true, none, some 20⟩).atRest ∧
    ((settle (.leaf .a 1) true (doorsIn .closing State.reset)).channel .a).hold = false ∧
    ((doorsIn .locked State.reset).setInput (.leaf .a 0) ⟨false, none, some 20⟩).atRest ∧
    ((doorsIn .locked State.reset).channel .a).hold = false := by
  unfold State.atRest; decide +kernel

theorem witness_InputsAreFiltered_hold :
    (∀ b, (settle (.iso .a) b (settle (.leaf .a 0) true State.reset)).atRest ∧
      ((settle (.iso .a) b (settle (.leaf .a 0) true State.reset)).channel .a).hold = true ∧
      (settle (.iso .a) b (settle (.leaf .a 0) true State.reset)).input (.leaf .a 1) = State.reset.input (.leaf .a 1)) ∧
    (State.reset.input (.leaf .a 1)).level = none ∧ (State.reset.input (.leaf .a 1)).timer.isSome = true ∧
    (State.reset.input (.iso .a)).level = none ∧ (State.reset.input (.iso .a)).timer.isSome = true ∧ State.reset.atRest := by
  unfold State.atRest; decide +kernel

theorem witness_InputsAreFiltered_key :
    (keyComing 1 none).atRest ∧ (keyComing 1 none).input .key = ⟨true, none, some 20⟩ ∧
    (keyComing 1 none).item Item.autoStart = 1 ∧ (keyComing 1 none).lead.role = false ∧
    (keyComing 1 none).lead.state ≠ .calling ∧ (keyComing 1 none).alive .e2 = true ∧
    (keyComing 1 none).alive .e1 = false ∧ (keyComing 1 none).roomFor (.line .e2) 1 ∧
    (keyComing 1 none).roomFor .cab 1 := by
  unfold State.atRest State.roomFor; decide +kernel

theorem witness_InputsAreFiltered_plain :
    (keyComing 0 (some false)).atRest ∧ (keyComing 0 (some false)).input .key = ⟨true, some false, some 20⟩ ∧
    (keyComing 0 (some false)).item Item.autoStart ≠ 1 ∧
    (State.reset.input (.cpl .e1)).level = none ∧ (State.reset.input (.cpl .e1)).timer.isSome = true ∧
    (State.reset.input .th).level = none ∧ (State.reset.input .th).timer.isSome = true := by
  unfold State.atRest; decide +kernel

theorem witness_KeyLossEndsTheLead :
    (turning .key false (lead .leading .placed)).supplyLow = false ∧
    (turning .key false (lead .leading .placed)).atRest ∧
    (turning .key false (lead .leading .placed)).input .key = ⟨false, some true, some 20⟩ ∧
    (turning .key false (lead .leading .placed)).lead.role = true ∧
    (turning .key false (lead .leading .placed)).roomFor .cab 1 ∧
    (turning .key false (lead .leading .placed)).placedOrStale = true ∧
    (turning .key false (lead .calling .placing)).atRest ∧
    (turning .key false (lead .calling .placing)).consist.state = .placing ∧
    (turning .key false (lead .failed .conflict)).atRest ∧
    (turning .key false (lead .failed .conflict)).consist.state = .conflict := by
  unfold State.atRest State.roomFor; decide +kernel

theorem witness_FaultyRequestsAreRefused :
    (Instr.badRequestCode .cab 12 (request 1 [12])).arriving = some (.cab, mkFrame .request false false 0 0 0 [12]) ∧
    Heard .cab (mkFrame .request false false 0 0 0 [12]) cab ∧ knownCode 12 = false ∧ knownCode 0 = false ∧
    knownCode 11 = true ∧ cab.roomFor .cab 1 ∧
    Heard .cab (mkFrame .request false false 0 0 0 [6]) { cab with mgmt := { cab.mgmt with state := .resetPending } } ∧
    knownCode 6 = true ∧ Heard .cab (mkFrame .request false false 0 0 0 [6, 0]) cab ∧ requestLength [6, 0] = false ∧
    cab.mgmt.state ≠ .resetPending := by
  unfold Heard State.atRest State.roomFor; decide +kernel

theorem witness_ReadsAreAnswered :
    LocalRequest [1] (request 1 [1, 88, 1]) cab ∧ LocalRequest [1] (request 1 [1, 89, 1]) cab ∧
    LocalRequest [3, 0] (request 2 [3, 0, 23, 1]) cab := by
  unfold LocalRequest Heard State.atRest State.roomFor; decide +kernel

theorem witness_ReadsAreAnswered_tables :
    LocalRequest [3, 1] (request 2 [3, 1, 0, 4]) cab ∧ LocalRequest [3] (request 1 [3, 2, 31, 1]) cab := by
  unfold LocalRequest Heard State.atRest State.roomFor; decide +kernel

theorem witness_ReadsAreAnswered_map :
    LocalRequest [5] (request 1 [5, 15, 16]) cab ∧ LocalRequest [6] (request 1 [6]) cab := by
  unfold LocalRequest Heard State.atRest State.roomFor; decide +kernel

theorem witness_ItemsAreWrittenWhole :
    itemKind Item.fallback = .range 0 4 ∧ LocalRequest [2] (request 1 [2, 24, 1, 9, 0]) cab ∧
    (request 1 [2, 24, 1, 9, 0]).body = [24, 1] ++ bytesOf [9] ∧ cab.mgmt.store ≠ .storing ∧
    writeValues 24 [9] = some [4] ∧ thresholdsGood 24 1 (cab.items.setFrom 24 [4]) = true ∧
    LocalRequest [2] (request 1 [2, 24, 1, 9, 0]) storing ∧ storing.mgmt.store = .storing := by
  unfold LocalRequest Heard State.atRest State.roomFor; decide +kernel

theorem witness_ItemsAreWrittenWhole_refused :
    LocalRequest [2] (request 1 [2, 3, 1, 9, 0]) cab ∧ writeValues 3 [9] = none ∧
    LocalRequest [2] (request 1 [2, 22, 1, 0, 0]) cab ∧
    (writeValues 22 [0]).map (fun ws => thresholdsGood 22 1 (cab.items.setFrom 22 ws)) = some false := by
  unfold LocalRequest Heard State.atRest State.roomFor; decide +kernel

theorem witness_ItemsAreWrittenWhole_bounds :
    LocalRequest [2] (request 1 [2, 0, 0]) cab ∧ (request 1 [2, 0, 0]).body = [0, 0] ++ bytesOf [] ∧
    LocalRequest [2] (request 1 [2, 88, 2, 0, 0, 0, 0]) cab ∧ 89 < (88 : Byte).toNat + (2 : Byte).toNat ∧
    LocalRequest [2] (request 1 [2, 50, 2, 0, 0, 0, 0]) cab ∧ 51 < (50 : Byte).toNat + (2 : Byte).toNat ∧
    LocalRequest [2] (request 1 [2, 88, 1, 0, 0]) cab ∧
    (request 1 [2, 50, 2, 0, 0, 0, 0]).body = [50, 2] ++ bytesOf [0, 0] := by
  unfold LocalRequest Heard State.atRest State.roomFor; decide +kernel

theorem witness_ItemsAreWrittenWhole_acting :
    LocalRequest [2] (request 1 [2, byteOf (Item.leafCount .a), 1, 0, 0]) cab ∧
    (request 1 [2, byteOf (Item.leafCount .a), 1, 0, 0]).body = [byteOf (Item.leafCount .a), 1] ++ wordBytes 0 ∧
    LocalRequest [2] (request 1 [2, byteOf (Item.leafCount .b), 1, 5, 0]) cab ∧
    (request 1 [2, byteOf (Item.leafCount .b), 1, 5, 0]).body = [byteOf (Item.leafCount .b), 1] ++ wordBytes 5 ∧
    LocalRequest [2] (request 1 [2, 33, 1, 0xFF, 0xFF]) cab ∧ LocalRequest [2] (request 1 [2, 34, 1, 0xFF, 0xFF]) cab ∧
    (request 1 [2, 34, 1, 0xFF, 0xFF]).body = [if true then 34 else 33, 1] ++ wordBytes 0xFFFF := by
  unfold LocalRequest Heard State.atRest State.roomFor; decide +kernel

/-- A side with leaves, and a side without any, whose channel is then ISOLATED. -/
theorem witness_ItemsAreWrittenWhole_leaves :
    (∀ c, cab.leafCount c = 2) ∧ cab.leafInv ∧ cab.mgmt.store ≠ .storing ∧
    (∀ c, leafless.leafCount c = 0) ∧ leafless.leafInv ∧ leafless.mgmt.store ≠ .storing ∧
    LocalRequest [2] (request 1 [2, byteOf (Item.leafCount .a), 1, 2, 0]) leafless := by
  refine ⟨fun c => ?_, fun c => ?_, by decide +kernel, fun c => ?_, fun c => ?_, by decide +kernel, ?_⟩
  iterate 4 cases c <;> decide +kernel
  unfold LocalRequest Heard State.atRest State.roomFor; decide +kernel

theorem witness_TablesAreWrittenWhole :
    LocalRequest [4, 0] (request 2 [4, 0, 23, 1, 1, 9, 255, 255, 0, 32, 0, 0]) cab ∧
    (OrderEntry.listOf 1 [1, 9, 255, 255, 0, 32, 0, 0]).isSome = true ∧
    OrderEntry.listOf 1 [1, 64, 255, 255, 0, 32, 0, 0] = none ∧
    LocalRequest [4, 0] (request 2 [4, 0, 0, 1, 1, 64, 255, 255, 0, 32, 0, 0]) storing ∧
    LocalRequest [4] (request 1 [4, 1, 0, 1, 1, 40]) cab ∧
    stagesGood (cab.heat.stages.setFrom 0 (StageEntry.listOf 1 [1, 40])) = true ∧
    LocalRequest [4] (request 1 [4, 1, 1, 1, 1, 40]) cab ∧
    stagesGood (cab.heat.stages.setFrom 1 (StageEntry.listOf 1 [1, 40])) = false := by
  unfold LocalRequest Heard State.atRest State.roomFor; decide +kernel

theorem witness_StoresTakeEightyMilliseconds :
    LocalRequest [7] (request 1 [7]) cab ∧ (request 1 [7]).body = [] ∧ cab.mgmt.store ≠ .storing ∧
    LocalRequest [7] (request 1 [7]) storing ∧ storing.supplyLow = false ∧ storing.mgmt.storeTimer = some 80 ∧
    storing.mgmt.owed = some ⟨.cab, 0⟩ ∧ storing.mgmt.storing = some factoryImage ∧ storing.roomFor .cab 1 := by
  unfold LocalRequest Heard State.atRest State.roomFor; decide +kernel

theorem witness_NodeResetFollowsItsReply :
    Heard .cab (frameOf (request 1 [8]) .request [8]) cab ∧ (request 1 [8]).dest = 0 ∧ (request 1 [8]).body = [] ∧
    cab.mgmt.state ≠ .resetPending ∧ cab.roomFor .cab 1 ∧
    Heard .cab (frameOf (request 1 [8]) .request [8]) (queueOf .cab 4 cab) ∧ ¬ (queueOf .cab 4 cab).roomFor .cab 1 ∧
    (leaving 3).supplyLow = false ∧ (leaving 3).mgmt.state = .resetPending ∧
    (leaving 3).puC.queue = [⟨replyFrame 0 8 .done [], defaultRate, true⟩] ∧
    (leaving 3).puC.sending = some ⟨.bps38400, none⟩ ∧ 3 ≤ (leaving 3).puC.attempt := by
  unfold Heard State.atRest State.roomFor; decide +kernel

theorem witness_LeadControlIsObeyed :
    cab.active .key = false ∧ LocalRequest [9] (request 1 [9]) cab ∧ LocalRequest [10] (request 1 [10]) cab ∧
    LocalRequest [11] (request 1 [11, 88, 2, 4, 30, 0]) cab := by
  unfold LocalRequest Heard State.atRest State.roomFor; decide +kernel

theorem witness_LeadControlIsObeyed_call :
    LocalRequest [9] (request 1 [9]) keyed ∧ keyed.active .key = true ∧ keyed.alive .e2 = true ∧
    keyed.alive .e1 = false ∧ keyed.lead.state ≠ .calling ∧ keyed.roomFor .cab 2 ∧ keyed.roomFor (.line .e2) 1 := by
  unfold LocalRequest Heard State.atRest State.roomFor; decide +kernel

theorem witness_LeadControlIsObeyed_calling :
    LocalRequest [10] (request 1 [10]) calling ∧ calling.active .key = true ∧ calling.lead.role = true ∧
    calling.lead.state = .calling ∧ calling.consist.state = .placing ∧ calling.roomFor .cab 2 ∧
    LocalRequest [11] (request 1 [11, 88, 2, 4, 30, 0]) calling ∧
    (request 1 [11, 88, 2, 4, 30, 0]).body = wordBytes 600 ++ [4] ++ wordBytes 30 := by
  unfold LocalRequest Heard State.atRest State.roomFor; decide +kernel

theorem witness_SupplyResetLastsUntilSupplyReturns :
    { State.reset with supplyLow := true }.supplyLow = true ∧ Instr.tonePhase ≠ .supplyAboveUpperThreshold ∧
    Instr.rawEdge .key true ≠ .supplyAboveUpperThreshold ∧ Instr.supplyReset ≠ .supplyAboveUpperThreshold := by
  decide +kernel

theorem witness_StepsKeep :
    State.reset.atRest ∧ State.reset.queueInv ∧ State.reset.placeInv ∧ State.reset.leadInv ∧ State.reset.doorInv ∧ State.reset.leafInv ∧
    step State.reset = .next { State.reset with now := 1 } := by
  refine ⟨?_, ?_, ?_, ?_, ?_, fun c => by cases c <;> decide +kernel, rfl⟩
  · unfold State.atRest; decide +kernel
  · exact ⟨fun p => by rcases p with (_ | _) | _ <;> decide, by decide⟩
  · refine ⟨fun h => absurd h (by decide), fun p q x y hx => ?_, fun _ => by decide⟩
    rw [show State.reset.consist.table = emptyTable from rfl, recordAt_empty] at hx
    cases hx
  · unfold State.leadInv; decide +kernel
  · intro c; cases c <;> decide +kernel

end Sys2Proof.Tests
end

section
/-! The frames a node holds, in its three transmit queues and in the lead's send list, and the operations that leave
them alone. -/

namespace Sys2Proof.Machine

/-- The frames the node holds: the transmit queue of each port, and the lead's send list (R13, R53). -/
def State.frames (s : State) : List Queued × List Queued × List Queued × List Frame :=
  (s.pu1.queue, s.pu2.queue, s.puC.queue, s.lead.sendList)

/-- Two states with the same frames have the same queue at every port, and the same send list. -/
theorem frames_eq_iff {s t : State} :
    t.frames = s.frames ↔ (∀ p, (t.port p).queue = (s.port p).queue) ∧ t.lead.sendList = s.lead.sendList := by
  simp only [State.frames, Prod.mk.injEq]
  constructor
  · rintro ⟨h1, h2, h3, h4⟩
    exact ⟨fun p => by rcases p with (_ | _) | _ <;> assumption, h4⟩
  · rintro ⟨h, h4⟩
    exact ⟨h (.line .e1), h (.line .e2), h .cab, h4⟩

/-- The queue invariant speaks of the frames alone. -/
theorem queueInv_of_frames {s t : State} (h : t.frames = s.frames) (hs : s.queueInv) : t.queueInv := by
  obtain ⟨hq, hl⟩ := frames_eq_iff.1 h
  exact ⟨fun p => by rw [hq]; exact hs.1 p, by rw [hl]; exact hs.2⟩

/-- A choice between two states that both have kept the frames. -/
theorem frames_ite {c : Prop} [Decidable c] {a b s : State} (ha : a.frames = s.frames) (hb : b.frames = s.frames) :
    (if c then a else b).frames = s.frames := by
  split <;> assumption

/-! ### State, ports and ends -/

@[simp] theorem frames_raise (ev : Event) (s : State) : (raise ev s).frames = s.frames := rfl
@[simp] theorem frames_raiseIf (b : Bool) (ev : Event) (s : State) : (raiseIf b ev s).frames = s.frames := by
  cases b <;> rfl
@[simp] theorem frames_reach (s : State) (d : Nat) : (s.reach d).frames = s.frames := rfl
@[simp] theorem frames_setEnd (s : State) (e : End) (u : EndUnit) : (s.setEnd e u).frames = s.frames := by
  cases e <;> rfl
@[simp] theorem frames_setChannel (s : State) (c : Side) (ch : Channel) : (s.setChannel c ch).frames = s.frames := by
  cases c <;> rfl
@[simp] theorem frames_setComparison (s : State) (e : End) (c : Comparison) :
    (s.setComparison e c).frames = s.frames := by
  cases e <;> rfl
@[simp] theorem frames_setInput (s : State) (i : Input) (l : InputLine) : (s.setInput i l).frames = s.frames := rfl

/-- A port's unit replaced by one with the same queue. -/
theorem frames_setPort {s : State} {p : Port} {u : PortUnit} (h : u.queue = (s.port p).queue) :
    (s.setPort p u).frames = s.frames := by
  rcases p with (_ | _) | _ <;> simp_all [State.frames, State.setPort, State.port]

@[simp] theorem frames_restartIdle (p : Port) (s : State) : (restartIdle p s).frames = s.frames := by
  cases p <;> simp [restartIdle]

@[simp] theorem frames_dropFrame (p : Port) (next : RxState) (s : State) : (dropFrame p next s).frames = s.frames := by
  simp [dropFrame, frames_setPort]

/-! ### The door unit -/

@[simp] theorem frames_enterFault (c : Side) (cause : FaultCause) (s : State) :
    (enterFault c cause s).frames = s.frames := by simp [enterFault]
@[simp] theorem frames_enterLocked (c : Side) (s : State) : (enterLocked c s).frames = s.frames := by simp [enterLocked]
@[simp] theorem frames_enterIsolated (c : Side) (s : State) : (enterIsolated c s).frames = s.frames := by
  simp [enterIsolated]
@[simp] theorem frames_clearCause (c : Side) (s : State) : (clearCause c s).frames = s.frames := by simp [clearCause]
@[simp] theorem frames_enterReleased (c : Side) (s : State) : (enterReleased c s).frames = s.frames := by
  simp [enterReleased]
@[simp] theorem frames_enterWarning (c : Side) (s : State) : (enterWarning c s).frames = s.frames := by
  simp [enterWarning]
@[simp] theorem frames_clearRetries (c : Side) (s : State) : (clearRetries c s).frames = s.frames := by
  simp [clearRetries]
@[simp] theorem frames_enterHold (c : Side) (s : State) : (enterHold c s).frames = s.frames := by simp [enterHold]
@[simp] theorem frames_enterRecycle (c : Side) (s : State) : (enterRecycle c s).frames = s.frames := by
  simp [enterRecycle]

@[simp] theorem frames_enterClosing (c : Side) (s : State) : (enterClosing c s).frames = s.frames := by
  rcases enterClosing_cases c s with ⟨-, e⟩ | ⟨-, e⟩ <;> simp [e]

@[simp] theorem frames_releaseChannel (c : Side) (s : State) : (releaseChannel c s).2.frames = s.frames := by
  rcases releaseChannel_cases c s with ⟨e, -⟩ | e <;> simp [e]

@[simp] theorem frames_doorResetChannel (c : Side) (s : State) : (doorResetChannel c s).2.frames = s.frames := by
  rcases doorResetChannel_cases c s with ⟨-, e⟩ | ⟨-, e⟩ <;> simp [e]

@[simp] theorem frames_closeChannel (c : Side) (s : State) : (closeChannel c s).2.frames = s.frames := by
  unfold closeChannel; split <;> simp

@[simp] theorem frames_closeExpired (c : Side) (s : State) : (closeExpired c s).frames = s.frames := by
  unfold closeExpired; split <;> simp

@[simp] theorem frames_zspLost (s : State) : (zspLost s).frames = s.frames := by
  unfold zspLost; rw [frames_raiseIf]; split <;> split <;> simp

@[simp] theorem frames_leafOpens (c : Side) (n : Fin 4) (s : State) : (leafOpens c n s).frames = s.frames := by
  unfold leafOpens; split <;> simp

@[simp] theorem frames_leafCloses (c : Side) (n : Fin 4) (s : State) : (leafCloses c n s).frames = s.frames := by
  unfold leafCloses; split <;> simp

@[simp] theorem frames_isolateOn (c : Side) (s : State) : (isolateOn c s).frames = s.frames := by
  unfold isolateOn; split <;> simp

@[simp] theorem frames_leaveIsolated (c : Side) (s : State) : (leaveIsolated c s).frames = s.frames := by
  unfold leaveIsolated; split <;> simp

@[simp] theorem frames_isolateOff (c : Side) (s : State) : (isolateOff c s).frames = s.frames := by
  unfold isolateOff; split <;> simp

@[simp] theorem frames_tryEndHold (c : Side) (s : State) : (tryEndHold c s).frames = s.frames := by
  unfold tryEndHold; repeat' split
  all_goals simp

@[simp] theorem frames_leafCountWritten (c : Side) (old : Nat) (s : State) :
    (leafCountWritten c old s).frames = s.frames := by
  unfold leafCountWritten; repeat' split
  all_goals simp

@[simp] theorem frames_leafSettled (c : Side) (n : Fin 4) (level : Bool) (s : State) :
    (leafSettled c n level s).frames = s.frames := by
  rcases leafSettled_cases c n level s with ⟨-, e⟩ | ⟨-, -, e⟩ | ⟨-, -, e⟩ <;> simp [e]

@[simp] theorem frames_settleTone (s : State) : (settleTone s).frames = s.frames := by
  unfold settleTone; split <;> rfl

@[simp] theorem frames_tonePhaseExpired (s : State) : (tonePhaseExpired s).frames = s.frames := by
  unfold tonePhaseExpired; split
  · rfl
  · split <;> rfl

@[simp] theorem frames_chime (param : Byte) (s : State) : (chime param s).frames = s.frames := rfl

/-! ### The heating unit -/

@[simp] theorem frames_settleHeat (s : State) : (settleHeat s).frames = s.frames :=
  frames_ite rfl (frames_ite rfl rfl)

@[simp] theorem frames_energize (s : State) : (energize s).frames = s.frames := by
  unfold energize; split <;> rfl

@[simp] theorem frames_stageDue (r : Raise) (s : State) : (stageDue r s).frames = s.frames := by
  unfold stageDue; split
  · exact frames_energize s
  · rfl

@[simp] theorem frames_dueArrives (s : State) : (dueArrives s).frames = s.frames := by
  unfold dueArrives; repeat' split
  all_goals simp

@[simp] theorem frames_minOffExpired (i : Nat) (s : State) : (minOffExpired i s).frames = s.frames := by
  unfold minOffExpired; dsimp only; repeat' split
  · exact frames_energize _
  all_goals rfl

@[simp] theorem frames_holdoverExpired (s : State) : (holdoverExpired s).frames = s.frames := rfl

@[simp] theorem frames_applyThresholds (s : State) : (applyThresholds s).frames = s.frames := by
  unfold applyThresholds; repeat' split
  all_goals rfl

@[simp] theorem frames_supplySample (v : Nat) (s : State) : (supplySample v s).frames = s.frames := by
  unfold supplySample; dsimp only; split
  · exact frames_applyThresholds _
  · rfl

@[simp] theorem frames_updateRecord (d : PassData) (s : State) : (updateRecord d s).1.frames = s.frames := by
  unfold updateRecord; repeat' split
  all_goals rfl

@[simp] theorem frames_decideGrant (d : PassData) (s : State) : (decideGrant d s).2.frames = s.frames := by
  rcases decideGrant_cases d s with ⟨-, -, -, e⟩ | ⟨-, e⟩ | e <;> exact congrArg (·.2.frames) e

@[simp] theorem frames_computePass (d : PassData) (s : State) : (computePass d s).2.frames = s.frames := by
  unfold computePass; split
  · have h := frames_updateRecord d s
    split <;> simp_all
  · rfl

@[simp] theorem frames_takeHeatSet (d : HeatSetData) (s : State) : (takeHeatSet d s).frames = s.frames :=
  frames_ite rfl (frames_settleHeat _)

/-! ### The consist unit -/

@[simp] theorem frames_losePosition (st : ConsistState) (s : State) : (losePosition st s).frames = s.frames := rfl

@[simp] theorem frames_returnToUnplaced (s : State) : (returnToUnplaced s).frames = s.frames := by
  rcases returnToUnplaced_cases s with ⟨-, e⟩ | ⟨-, e⟩ <;> simp [e]

@[simp] theorem frames_enterPlacing (n : Nat) (e : End) (t : Timer) (s : State) :
    (enterPlacing n e t s).frames = s.frames := rfl
@[simp] theorem frames_startPlacing (s : State) : (startPlacing s).frames = s.frames := rfl
@[simp] theorem frames_startLeadLoss (s : State) : (startLeadLoss s).frames = s.frames := rfl
@[simp] theorem frames_enterPlaced (s : State) : (enterPlaced s).frames = s.frames := rfl

@[simp] theorem frames_enterStale (s : State) : (enterStale s).frames = s.frames := by
  rcases enterStale_cases s with ⟨-, e⟩ | ⟨-, e⟩ <;> exact (congrArg State.frames e).trans rfl

@[simp] theorem frames_leadLossExpired (s : State) : (leadLossExpired s).frames = s.frames :=
  frames_enterStale _

@[simp] theorem frames_handSource (src : Byte) (s : State) : (handSource src s).frames = s.frames := by
  rcases handSource_cases src s with ⟨-, -, -, e⟩ | e <;> simp [e]

@[simp] theorem frames_compareEnd (e : End) (s : State) : (compareEnd e s).frames = s.frames := by
  unfold compareEnd; split <;> simp

@[simp] theorem frames_presenceChanged (e : End) (s : State) : (presenceChanged e s).frames = s.frames := by
  simp [presenceChanged]

@[simp] theorem frames_restartSilence (e : End) (s : State) : (restartSilence e s).frames = s.frames := by
  unfold restartSilence; dsimp only; split <;> simp

@[simp] theorem frames_takeRoster (l : List Byte) (s : State) : (takeRoster l s).frames = s.frames := by
  unfold takeRoster; split <;> rfl

@[simp] theorem frames_takeConfirm (d : ConfirmData) (s : State) : (takeConfirm d s).2.frames = s.frames := by
  unfold takeConfirm; repeat' split
  all_goals rfl

@[simp] theorem frames_takeSurvey (hop : Nat) (d : SurveyData) (s : State) :
    (takeSurvey hop d s).2.frames = s.frames := by
  unfold takeSurvey; dsimp only; split <;> simp

@[simp] theorem frames_holdOffExpired (s : State) : (holdOffExpired s).frames = s.frames := by
  unfold holdOffExpired
  rw [frames_compareEnd, frames_compareEnd]; rfl

/-! ### The order dispatcher -/

@[simp] theorem frames_recordOutcome (d : OrderData) (sel : Option (Nat × Action)) (o : OrderOutcome) (a b : SideResult)
    (s : State) : (recordOutcome d sel o a b s).frames = s.frames := rfl

@[simp] theorem frames_recordBare (d : OrderData) (i : Nat) (a : Action) (o : OrderOutcome) (s : State) :
    (recordBare d i a o s).frames = s.frames := rfl

/-- A door action that leaves the frames alone at each channel does so at a set of channels. -/
theorem frames_handDoors (d : OrderData) (i : Nat) (a : Action) (act : Side → State → SideResult × State)
    (set : Side → Bool) (s : State) (h : ∀ c s, (act c s).2.frames = s.frames) :
    (handDoors d i a act set s).frames = s.frames := by
  unfold handDoors
  cases set .a <;> cases set .b <;> simp [h]

@[simp] theorem frames_orderRelease (d : OrderData) (i : Nat) (s : State) : (orderRelease d i s).frames = s.frames := by
  unfold orderRelease; repeat' split
  · rfl
  · exact frames_handDoors d i _ _ _ s frames_releaseChannel
  · rfl

@[simp] theorem frames_orderClose (d : OrderData) (i : Nat) (s : State) : (orderClose d i s).frames = s.frames := by
  unfold orderClose; split
  · exact frames_handDoors d i _ _ _ s frames_closeChannel
  · rfl

@[simp] theorem frames_orderDoorReset (d : OrderData) (i : Nat) (s : State) :
    (orderDoorReset d i s).frames = s.frames := by
  unfold orderDoorReset; split
  · exact frames_handDoors d i _ _ _ s frames_doorResetChannel
  · rfl

@[simp] theorem frames_takeOrder (d : OrderData) (s : State) : (takeOrder d s).frames = s.frames := by
  unfold takeOrder; split
  · rfl
  · split
    case h_2 => exact frames_orderRelease _ _ _
    case h_3 => exact frames_orderClose _ _ _
    case h_4 => exact frames_orderDoorReset _ _ _
    all_goals rfl

/-! ### Items and leaf counts -/

@[simp] theorem frames_raiseNoticed (start count : Nat) (s : State) :
    (raiseNoticed start count s).frames = s.frames := by
  simp [raiseNoticed, conditionEvents]

@[simp] theorem frames_writeLeafCount (start count : Nat) (old : State) (c : Side) (s : State) :
    (writeLeafCount start count old c s).frames = s.frames := by
  unfold writeLeafCount; split <;> simp

@[simp] theorem frames_storeItems (start : Nat) (values : List Word) (s : State) :
    (storeItems start values s).frames = s.frames := by
  simp only [storeItems, frames_raiseNoticed, frames_writeLeafCount]; rfl

/-! ### The lead machine -/

@[simp] theorem frames_oweStatus (s : State) : (oweStatus s).frames = s.frames := rfl
@[simp] theorem frames_setLead (st : LeadState) (r : Reason) (s : State) : (setLead st r s).frames = s.frames := rfl
@[simp] theorem frames_endCycle (res : CycleResult) (c : Cycle) (f : Reflected) (s : State) :
    (endCycle res c f s).frames = s.frames := rfl

@[simp] theorem frames_abandonCycle (s : State) : (abandonCycle s).frames = s.frames := by
  unfold abandonCycle; dsimp only; split <;> rfl

@[simp] theorem frames_stopLeading (s : State) : (stopLeading s).frames = s.frames := by
  unfold stopLeading; rw [frames_abandonCycle]; rfl

@[simp] theorem frames_passTimedOut (s : State) : (passTimedOut s).frames = s.frames := by
  unfold passTimedOut; split <;> rfl

@[simp] theorem frames_takeRole (s : State) : (takeRole s).frames = s.frames := rfl
@[simp] theorem frames_startWindow (s : State) : (startWindow s).frames = s.frames := rfl

@[simp] theorem frames_takeAnswer (l : List Byte) (s : State) : (takeAnswer l s).frames = s.frames := by
  unfold takeAnswer; dsimp only; split <;> rfl

@[simp] theorem frames_countMiss (s : State) : (countMiss s).frames = s.frames := by
  unfold countMiss; dsimp only; split
  · rw [frames_raise, frames_enterStale]; rfl
  · rfl

/-! ### The line -/

@[simp] theorem frames_restartLock (p : Port) (s : State) : (restartLock p s).frames = s.frames := by cases p <;> rfl
@[simp] theorem frames_stopLock (p : Port) (s : State) : (stopLock p s).frames = s.frames := by cases p <;> rfl

@[simp] theorem frames_loseLock (p : Port) (next : RxState) (s : State) : (loseLock p next s).frames = s.frames := by
  unfold loseLock; dsimp only; split <;> simp [frames_setPort]

@[simp] theorem frames_takeSync (p : Port) (r : LineRate) (s : State) : (takeSync p r s).frames = s.frames := by
  unfold takeSync; dsimp only; split <;> simp [frames_setPort]

@[simp] theorem frames_hearSync (p : Port) (bitTime : Nat) (c : Character) (s : State) :
    (hearSync p bitTime c s).frames = s.frames := by
  unfold hearSync; dsimp only; repeat' split
  all_goals simp

@[simp] theorem frames_syncFails (p : Port) (bitTime : Nat) (c : Character) (s : State) :
    (syncFails p bitTime c s).frames = s.frames := by
  unfold syncFails; dsimp only; split <;> simp

@[simp] theorem frames_failFrame (p : Port) (fails : Bool) (next : RxState) (s : State) :
    (failFrame p fails next s).frames = s.frames := by
  unfold failFrame; split <;> simp

@[simp] theorem frames_backToHunt (p : Port) (markBits : Nat) (s : State) :
    (backToHunt p markBits s).frames = s.frames := by
  unfold backToHunt; dsimp only; split <;> simp [frames_setPort]

@[simp] theorem frames_watchBreak (p : Port) (lock : Option LineRate) (s : State) :
    (watchBreak p lock s).frames = s.frames := by
  unfold watchBreak; repeat' split
  all_goals rfl

@[simp] theorem frames_takeBreak (p : Port) (spaceBits : Nat) (s : State) :
    (takeBreak p spaceBits s).frames = s.frames := by
  unfold takeBreak; dsimp only; split
  · rw [frames_watchBreak, frames_setPort (p := p) (by rfl), frames_loseLock]
  · rfl

@[simp] theorem frames_silenceExpired (e : End) (s : State) : (silenceExpired e s).frames = s.frames := by
  simp [silenceExpired]

@[simp] theorem frames_startSending (p : Port) (markBits : Nat) (s : State) :
    (startSending p markBits s).frames = s.frames := by
  unfold startSending; dsimp only; split <;> simp [frames_setPort]

@[simp] theorem frames_lineError (p : Port) (s : State) : (lineError p s).frames = s.frames := by
  simp [lineError, frames_setPort]

@[simp] theorem frames_passedChecks (p : Port) (s : State) : (passedChecks p s).frames = s.frames := by
  unfold passedChecks; repeat' split
  all_goals simp

/-! ### Events and the clock -/

@[simp] theorem frames_begin (s : State) : (begin s).frames = s.frames := rfl

@[simp] theorem frames_tick (s : State) : (tick s).frames = s.frames := by
  unfold tick; split <;> rfl

/-- An expiry whose effect leaves the frames alone does so itself. -/
theorem frames_onExpiry (t : Timer) (f : State → State) (s : State) (h : ∀ s, (f s).frames = s.frames) :
    (onExpiry t f s).frames = s.frames := by
  cases t <;> simp [h]

/-- The same for a channel's timer. -/
theorem frames_onChannelTimer (c : Side) (st : DoorState) (f : State → State) (s : State)
    (h : ∀ s, (f s).frames = s.frames) : (onChannelTimer c st f s).frames = s.frames := by
  unfold onChannelTimer; split
  · exact frames_onExpiry _ f s h
  · rfl

end Sys2Proof.Machine
end

section
/-! Every step keeps the queue invariant (R13, R14, R35): each frame that a unit offers carries the check of its content,
and a queue takes a frame only where it has a free slot. -/

namespace Sys2Proof.Machine

/-! ### Frames that are built or changed -/

@[simp] theorem leadFrame_checkGood (k : Kind) (l : List Byte) : (leadFrame k l).checkGood = true := by simp [leadFrame]
@[simp] theorem withHop_checkGood (f : Frame) (p : Nat) : (f.withHop p).checkGood = true := recheck_checkGood _
@[simp] theorem turned_checkGood (f : Frame) (p : Nat) : (f.turned p).checkGood = true := recheck_checkGood _
@[simp] theorem fromCab_checkGood (f : Frame) (d : Byte) : (f.fromCab d).checkGood = true := recheck_checkGood _
@[simp] theorem replyFrame_checkGood (n : Nat) (code : Byte) (st : Status) (l : List Byte) :
    (replyFrame n code st l).checkGood = true := by simp [replyFrame]
@[simp] theorem leadStatusFrame_checkGood (s : State) : (leadStatusFrame s).checkGood = true := by
  simp [leadStatusFrame]

/-- Every ROSTER of a send list carries its check (R53). -/
theorem rosterFrames_checkGood (fuel first : Nat) (l : List (Option CoachRecord)) :
    ∀ f ∈ rosterFrames fuel first l, f.checkGood = true := by
  induction fuel generalizing first l with
  | zero => simp [rosterFrames]
  | succ n ih =>
    cases l with
    | nil => simp [rosterFrames]
    | cons x xs => simpa [rosterFrames] using ih (first + 4) (xs.drop 3)

/-! ### Queues -/

/-- A port's unit replaced by one with a queue that is good itself. -/
theorem setPort_queueInv {s : State} {p : Port} {u : PortUnit} (hl : u.queue.length ≤ 4)
    (hg : ∀ q ∈ u.queue, q.frame.checkGood = true) (hs : s.queueInv) : (s.setPort p u).queueInv := by
  refine ⟨fun q => ?_, by simpa using hs.2⟩
  by_cases h : q = p
  · subst h; simpa using ⟨hl, hg⟩
  · rw [port_setPort_ne s u h]; exact hs.1 q

/-- A good frame offered to a queue keeps it at 4 frames and good (R13). -/
theorem offerQueued_queueInv {p : Port} {q : Queued} {s : State} (hq : q.frame.checkGood = true) (hs : s.queueInv) :
    (offerQueued p q s).queueInv := by
  rcases offerQueued_cases p q s with ⟨hl, e⟩ | ⟨-, e⟩ <;> rw [e]
  · refine setPort_queueInv (by simp; omega) (fun x hx => ?_) hs
    rcases List.mem_append.1 hx with hx | hx
    · exact (hs.1 p).2 x hx
    · rw [List.mem_singleton.1 hx]; exact hq
  · exact setPort_queueInv (hs.1 p).1 (hs.1 p).2 hs

theorem offer_queueInv {p : Port} {f : Frame} {r : LineRate} {s : State} (hf : f.checkGood = true) (hs : s.queueInv) :
    (offer p f r s).queueInv := offerQueued_queueInv hf hs

theorem offerEnd_queueInv {e : Option End} {f : Frame} {r : LineRate} {s : State} (hf : f.checkGood = true)
    (hs : s.queueInv) : (offerEnd e f r s).queueInv := by
  cases e with
  | none => exact hs
  | some e => exact offer_queueInv hf hs

/-- A choice between two states that both keep the invariant. The proofs below follow the choices of each definition with
it, in the definition's order. -/
theorem queueInv_ite {c : Prop} [Decidable c] {a b : State} (ha : a.queueInv) (hb : b.queueInv) :
    (if c then a else b).queueInv := by
  split <;> assumption

/-! ### The end of an event -/

theorem flushMiss_queueInv {s : State} (hs : s.queueInv) : (flushMiss s).queueInv := by
  cases h : s.scratch.missed with
  | none => rwa [flushMiss_none h]
  | some u => rw [flushMiss_some h]; exact offer_queueInv (leadStatusFrame_checkGood _) hs

theorem flushStatus_queueInv {s : State} (hs : s.queueInv) : (flushStatus s).queueInv :=
  queueInv_ite (offer_queueInv (leadStatusFrame_checkGood s) (flushMiss_queueInv hs)) hs

theorem finish_queueInv {s : State} (hs : s.queueInv) : (finish s).queueInv :=
  queueInv_of_frames (s := flushStatus (settleHeat (settleTone s))) rfl
    (flushStatus_queueInv (queueInv_of_frames (by simp) hs))

/-! ### The allocation sequencer -/

theorem originate_queueInv {k : Kind} {l : List Byte} {s : State} (hs : s.queueInv) : (originate k l s).queueInv :=
  queueInv_ite hs (offerEnd_queueInv (leadFrame_checkGood k l) hs)

theorem completeCycle_queueInv {c : Cycle} {f : Reflected} {s : State} (hs : s.queueInv) :
    (completeCycle c f s).queueInv :=
  queueInv_of_frames (s := takeHeatSet _ _) rfl (queueInv_of_frames (frames_takeHeatSet _ _) (originate_queueInv hs))

theorem sendLevels_queueInv {fuel : Nat} {c : Cycle} {r : Word} {s : State} (hs : s.queueInv) :
    (sendLevels fuel c r s).queueInv := by
  induction fuel generalizing c r s with
  | zero => exact hs
  | succ n ih =>
    have hp := queueInv_of_frames (frames_computePass ⟨s.seq.number, byteOf c.level, r, 0, 0, byteOf c.demand⟩ s) hs
    refine queueInv_ite (queueInv_ite (completeCycle_queueInv ?_) (ih ?_))
      (offerEnd_queueInv (leadFrame_checkGood _ _) ?_)
    all_goals exact queueInv_of_frames (s := (computePass _ _).2) rfl hp

theorem startCycle_queueInv {s : State} (hs : s.queueInv) : (startCycle s).queueInv :=
  sendLevels_queueInv (queueInv_of_frames (s := s) rfl hs)

theorem takeReflectedPass_queueInv {d : PassData} {s : State} (hs : s.queueInv) : (takeReflectedPass d s).queueInv := by
  unfold takeReflectedPass; split
  · exact queueInv_ite (queueInv_ite (completeCycle_queueInv (queueInv_of_frames (s := s) rfl hs))
      (sendLevels_queueInv (queueInv_of_frames (s := s) rfl hs))) hs
  · exact hs

theorem heatingPeriodExpired_queueInv {s : State} (hs : s.queueInv) : (heatingPeriodExpired s).queueInv :=
  queueInv_ite (startCycle_queueInv (queueInv_of_frames (s := s) rfl hs)) (queueInv_of_frames (s := s) rfl hs)

/-! ### The roll call of the lead -/

theorem enterLeading_queueInv {s : State} (hs : s.queueInv) : (enterLeading s).queueInv :=
  startCycle_queueInv (queueInv_of_frames (s := s) rfl hs)

/-- The send list emptied, as on every way out of a roll call. -/
theorem failLead_queueInv {r : Reason} {s : State} (hs : s.queueInv) : (failLead r s).queueInv := by
  have h : ({ s with lead := { s.lead with window := none, sendList := [] } } : State).queueInv := ⟨hs.1, by simp⟩
  exact queueInv_ite (queueInv_of_frames (s := { s with lead := { s.lead with window := none, sendList := [] } }) rfl h)
    (queueInv_of_frames (s := { s with lead := { s.lead with window := none, sendList := [] } }) rfl h)

theorem offerList_queueInv {l : List Frame} {s : State} (hl : ∀ f ∈ l, f.checkGood = true) (hs : s.queueInv) :
    (offerList l s).queueInv := by
  induction l generalizing s with
  | nil => exact ⟨hs.1, by simp [offerList]⟩
  | cons f rest ih =>
    have hf := hl f List.mem_cons_self
    have hr : ∀ g ∈ rest, g.checkGood = true := fun g hg => hl g (List.mem_cons_of_mem _ hg)
    exact queueInv_ite (ih hr hs) (queueInv_ite (ih hr (offerEnd_queueInv hf hs)) ⟨hs.1, hl⟩)

theorem drainList_queueInv {s : State} (hs : s.queueInv) : (drainList s).1.queueInv := by
  have ho : (offerList s.lead.sendList s).queueInv := offerList_queueInv hs.2 hs
  have hc (t : State) (ht : t.queueInv) : (setLead .confirming t.lead.reason t).queueInv :=
    queueInv_of_frames (s := t) rfl ht
  unfold drainList; dsimp only; split
  · split
    · exact offerList_queueInv (by simp) (hc _ ho)
    · exact hc _ ho
  · exact ho

theorem startRound_queueInv {s : State} (hs : s.queueInv) : (startRound s).queueInv :=
  ⟨hs.1, rosterFrames_checkGood _ _ _⟩

theorem beginRounds_queueInv {fuel : Nat} {s : State} (hs : s.queueInv) : (beginRounds fuel s).queueInv := by
  induction fuel generalizing s with
  | zero => exact failLead_queueInv hs
  | succ n ih =>
    have hd := drainList_queueInv (startRound_queueInv hs)
    unfold beginRounds
    cases h : drainList (startRound s) with
    | mk t o =>
      rw [h] at hd
      cases o with
      | none => exact hd
      | some d =>
        exact queueInv_ite (enterLeading_queueInv hd)
          (queueInv_ite (ih (queueInv_of_frames (s := t) rfl hd)) (failLead_queueInv hd))

theorem roundFailed_queueInv {s : State} (hs : s.queueInv) : (roundFailed s).queueInv :=
  queueInv_ite (beginRounds_queueInv ⟨hs.1, by simp⟩) (failLead_queueInv hs)

theorem takeReflectedConfirm_queueInv {hop : Nat} {d : ConfirmData} {s : State} (hs : s.queueInv) :
    (takeReflectedConfirm hop d s).queueInv := by
  have hw : ({ s with lead := { s.lead with window := none } } : State).queueInv := queueInv_of_frames (s := s) rfl hs
  exact queueInv_ite (queueInv_ite (enterLeading_queueInv hw) (roundFailed_queueInv hw)) hs

theorem sendListGoesOn_queueInv {s : State} (hs : s.queueInv) : (sendListGoesOn s).queueInv := by
  have hd := drainList_queueInv hs
  refine queueInv_ite hs ?_
  cases h : drainList s with
  | mk t o =>
    rw [h] at hd
    cases o with
    | none => exact hd
    | some d => exact takeReflectedConfirm_queueInv hd

theorem sendCall_queueInv {n : Nat} {s : State} (hs : s.queueInv) : (sendCall n s).queueInv :=
  offerEnd_queueInv (leadFrame_checkGood _ _) hs

theorem enterCalling_queueInv {e : End} {s : State} (hs : s.queueInv) : (enterCalling e s).queueInv :=
  queueInv_ite (sendCall_queueInv (queueInv_of_frames (s := s) rfl hs))
    (enterLeading_queueInv (queueInv_of_frames (s := s) rfl hs))

theorem startRollCall_queueInv {s : State} (hs : s.queueInv) : (startRollCall s).queueInv := by
  have h0 := queueInv_of_frames (frames_stopLeading s) hs
  unfold startRollCall
  extract_lets s1 s2 s3
  have h3 : s3.queueInv := ⟨h0.1, by simp [s3]⟩
  split
  · exact queueInv_of_frames (frames_returnToUnplaced _) (queueInv_of_frames (s := s3) rfl h3)
  all_goals exact enterCalling_queueInv h3

theorem failAttempt_queueInv {r : Reason} {s : State} (hs : s.queueInv) : (failAttempt r s).queueInv :=
  queueInv_ite
    (queueInv_ite (sendCall_queueInv (queueInv_of_frames (s := s) rfl hs)) (queueInv_of_frames (s := s) rfl hs))
    (failLead_queueInv hs)

theorem takeTail_queueInv {d : TailData} {s : State} (hs : s.queueInv) : (takeTail d s).queueInv := by
  have hw : ({ s with lead := { s.lead with window := none } } : State).queueInv := queueInv_of_frames (s := s) rfl hs
  refine queueInv_ite
    (queueInv_ite ?_ (queueInv_ite (failLead_queueInv hw) (queueInv_ite ?_ (failAttempt_queueInv hw)))) hs
  · exact queueInv_of_frames (frames_returnToUnplaced _) (queueInv_of_frames (s := s) rfl hs)
  · exact beginRounds_queueInv (queueInv_of_frames (s := s) rfl hs)

theorem windowExpired_queueInv {s : State} (hs : s.queueInv) : (windowExpired s).queueInv := by
  have hw : ({ s with lead := { s.lead with window := none } } : State).queueInv := queueInv_of_frames (s := s) rfl hs
  unfold windowExpired; dsimp only; split
  · exact failAttempt_queueInv hw
  · exact roundFailed_queueInv hw
  · exact roundFailed_queueInv hw
  all_goals exact hw

/-! ### The lead role, STOP and conflict -/

theorem leadRollCall_queueInv {s : State} (hs : s.queueInv) : (leadRollCall s).queueInv :=
  startRollCall_queueInv (queueInv_ite hs (queueInv_of_frames (frames_takeRole s) hs))

theorem keyActive_queueInv {s : State} (hs : s.queueInv) : (keyActive s).queueInv :=
  queueInv_ite (leadRollCall_queueInv hs) hs

theorem keyInactive_queueInv {s : State} (hs : s.queueInv) : (keyInactive s).queueInv := by
  have h0 := queueInv_of_frames (frames_stopLeading s) hs
  unfold keyInactive
  refine queueInv_ite ?_ hs
  extract_lets s1 s2 s3
  have h3 : s3.queueInv := ⟨h0.1, by simp [s3]⟩
  split
  · exact queueInv_of_frames (frames_startPlacing _) h3
  · exact queueInv_of_frames (frames_startLeadLoss _) h3
  · exact queueInv_of_frames (frames_startLeadLoss _) h3
  · exact queueInv_of_frames (frames_returnToUnplaced _) h3
  · exact h3

theorem stopLead_queueInv {s : State} (hs : s.queueInv) : (stopLead s).queueInv := by
  unfold stopLead; split
  case h_4 => exact queueInv_of_frames (by rw [frames_setLead, frames_stopLeading]) hs
  case h_5 => exact hs
  case h_6 => exact hs
  all_goals exact failLead_queueInv hs

theorem sendTail_queueInv {e : End} {d : TailData} {s : State} (hs : s.queueInv) : (sendTail e d s).queueInv :=
  offer_queueInv (mkFrame_checkGood _ _ _ _ _ _ _) hs

theorem takeConflict_queueInv {e : End} {hop : Nat} {s : State} (hs : s.queueInv) :
    (takeConflict e hop s).queueInv := by
  have h0 := queueInv_of_frames (frames_stopLeading s) hs
  refine sendTail_queueInv (queueInv_of_frames (frames_raiseIf _ _ _) ?_)
  exact ⟨h0.1, by simp [losePosition, clearCycleRecord, setLead]⟩

theorem placeByCall_queueInv {e : End} {f : Frame} {r : LineRate} {s : State} (hs : s.queueInv) :
    (placeByCall e f r s).queueInv := by
  refine queueInv_ite hs (queueInv_ite (sendTail_queueInv (queueInv_of_frames (frames_returnToUnplaced s) hs)) ?_)
  have ha := offer_queueInv (p := .line e) (r := defaultRate)
    (mkFrame_checkGood .answer true false 0 1 (startPlacing (enterPlacing (f.hop + 1) e none s)).sourceByte
      (ownRecord (f.hop + 1) e (startPlacing (enterPlacing (f.hop + 1) e none s))).bytes)
    (queueInv_of_frames (t := startPlacing (enterPlacing (f.hop + 1) e none s)) rfl hs)
  exact queueInv_ite (offer_queueInv (withHop_checkGood f _) ha) (sendTail_queueInv ha)

theorem takeCall_queueInv {e : End} {f : Frame} {r : LineRate} {s : State} (hs : s.queueInv) :
    (takeCall e f r s).queueInv :=
  queueInv_ite (takeConflict_queueInv hs) (placeByCall_queueInv hs)

/-! ### The survey at the lead -/

theorem autoRecall_queueInv {s : State} (hs : s.queueInv) : (autoRecall s).queueInv :=
  startRollCall_queueInv (queueInv_of_frames (s := s) rfl hs)

theorem takeReflectedSurvey_queueInv {d : SurveyData} {s : State} (hs : s.queueInv) :
    (takeReflectedSurvey d s).queueInv := by
  have he (t : State) (ht : t.frames = s.frames) : (enterStale t).queueInv :=
    queueInv_of_frames (by rw [frames_enterStale, ht]) hs
  rcases takeReflectedSurvey_cases d s with ⟨-, e⟩ | ⟨-, -, ⟨-, e⟩ | ⟨-, -, e⟩ | ⟨-, -, e⟩⟩ <;> rw [e]
  · exact hs
  · exact queueInv_of_frames (s := s) rfl hs
  · exact he _ rfl
  · exact autoRecall_queueInv (he _ rfl)

theorem sendSurvey_queueInv {s : State} (hs : s.queueInv) : (sendSurvey s).queueInv :=
  queueInv_ite (takeReflectedSurvey_queueInv (queueInv_of_frames (s := s) rfl hs))
    (offerEnd_queueInv (leadFrame_checkGood _ _) (queueInv_of_frames (s := s) rfl hs))

theorem surveyPeriodExpired_queueInv {s : State} (hs : s.queueInv) : (surveyPeriodExpired s).queueInv := by
  have hp : (startSurveyPeriod s).queueInv := queueInv_of_frames (s := s) rfl hs
  have hm := queueInv_of_frames (frames_countMiss (startSurveyPeriod s)) hp
  exact queueInv_ite (queueInv_ite (autoRecall_queueInv hm) (sendSurvey_queueInv hm)) (sendSurvey_queueInv hp)

/-! ### Inputs -/

theorem inputChanged_queueInv {i : Input} {level : Bool} {s : State} (hs : s.queueInv) :
    (inputChanged i level s).queueInv := by
  cases i with
  | cpl e => exact queueInv_of_frames (by simp [inputChanged]) hs
  | key => exact queueInv_ite (keyActive_queueInv hs) (keyInactive_queueInv hs)
  | zsp => exact queueInv_ite hs (queueInv_of_frames (frames_zspLost s) hs)
  | iso c =>
    exact queueInv_ite (queueInv_of_frames (frames_isolateOn c s) hs) (queueInv_of_frames (frames_isolateOff c s) hs)
  | leaf c n =>
    exact queueInv_ite (queueInv_of_frames (frames_leafCloses c n s) hs)
      (queueInv_of_frames (frames_leafOpens c n s) hs)
  | th => exact hs

theorem inputSettled_queueInv {i : Input} {level : Bool} {s : State} (hs : s.queueInv) :
    (inputSettled i level s).queueInv := by
  cases i with
  | cpl e => exact queueInv_of_frames (frames_compareEnd e s) hs
  | key => exact queueInv_ite (keyActive_queueInv hs) hs
  | iso c => exact queueInv_of_frames (frames_tryEndHold c s) hs
  | leaf c n => exact queueInv_of_frames (frames_leafSettled c n level s) hs
  | zsp => exact hs
  | th => exact hs

theorem stabilityExpired_queueInv {i : Input} {s : State} (hs : s.queueInv) : (stabilityExpired i s).queueInv := by
  have ht := queueInv_of_frames (frames_setInput s i { s.input i with level := some (s.input i).raw, timer := none }) hs
  unfold stabilityExpired; dsimp only; split
  · exact inputSettled_queueInv ht
  · exact queueInv_ite ht (inputChanged_queueInv ht)

/-! ### Resets -/

/-- The start of a reset empties every queue and the send list (R189). -/
theorem resetBegin_queueInv (cause : ResetCause) (s : State) : (resetBegin cause s).queueInv := by
  unfold resetBegin
  refine queueInv_of_frames (frames_raiseIf _ _ _)
    (queueInv_of_frames (frames_raise _ _) ⟨fun p => ?_, by simp [Lead.reset]⟩)
  rcases p with (_ | _) | _ <;> simp [State.port, PortUnit.reset]

@[simp] theorem frames_resetEnd (s : State) : (resetEnd s).frames = s.frames := rfl

theorem resetNode_queueInv (cause : ResetCause) (s : State) : (resetNode cause s).queueInv :=
  queueInv_of_frames (frames_resetEnd _) (resetBegin_queueInv cause s)

/-! ### The management responder -/

theorem reply_queueInv {src : Source} {code : Byte} {st : Status} {l : List Byte} {s : State} (hs : s.queueInv) :
    (reply src code st l s).queueInv := by
  unfold reply; split
  · exact offer_queueInv (replyFrame_checkGood _ _ _ _) hs
  · exact hs

theorem refuse_queueInv {src : Source} {code : Byte} {st : Status} {s : State} (hs : s.queueInv) :
    (refuse src code st s).queueInv := reply_queueInv hs

theorem answerReadItems_queueInv {src : Source} {a n : Byte} {s : State} (hs : s.queueInv) :
    (answerReadItems src a n s).queueInv := queueInv_ite (reply_queueInv hs) (refuse_queueInv hs)

theorem answerWriteItems_queueInv {src : Source} {a n : Byte} {ws : List Word} {s : State} (hs : s.queueInv) :
    (answerWriteItems src a n ws s).queueInv := by
  refine queueInv_ite (refuse_queueInv hs) (queueInv_ite (refuse_queueInv hs) (queueInv_ite (refuse_queueInv hs) ?_))
  split
  · exact refuse_queueInv hs
  · exact queueInv_ite (reply_queueInv (queueInv_of_frames (frames_storeItems _ _ s) hs)) (refuse_queueInv hs)

theorem answerReadMap_queueInv {src : Source} {a n : Byte} {s : State} (hs : s.queueInv) :
    (answerReadMap src a n s).queueInv := queueInv_ite (reply_queueInv hs) (refuse_queueInv hs)

theorem answerReadTable_queueInv {src : Source} {t a n : Byte} {s : State} (hs : s.queueInv) :
    (answerReadTable src t a n s).queueInv := queueInv_ite (reply_queueInv hs) (refuse_queueInv hs)

theorem answerWriteTable_queueInv {src : Source} {t a n : Byte} {l : List Byte} {s : State} (hs : s.queueInv) :
    (answerWriteTable src t a n l s).queueInv := by
  have ho : (writeOrders src a n l s).queueInv := by
    unfold writeOrders; split
    · exact reply_queueInv (queueInv_of_frames (s := s) rfl hs)
    · exact refuse_queueInv hs
  have hw : (writeStages src a n l s).queueInv :=
    queueInv_ite (reply_queueInv (queueInv_of_frames (s := s) rfl hs)) (refuse_queueInv hs)
  exact queueInv_ite (refuse_queueInv hs) (queueInv_ite (refuse_queueInv hs)
    (queueInv_ite (refuse_queueInv hs) (queueInv_ite ho hw)))

theorem answerReadEvents_queueInv {src : Source} {s : State} (hs : s.queueInv) : (answerReadEvents src s).queueInv :=
  reply_queueInv (queueInv_of_frames (s := s) rfl hs)

theorem answerStore_queueInv {src : Source} {s : State} (hs : s.queueInv) : (answerStore src s).queueInv :=
  queueInv_ite (refuse_queueInv hs) (queueInv_of_frames (s := s) rfl hs)

theorem answerNodeReset_queueInv {src : Source} {s : State} (hs : s.queueInv) : (answerNodeReset src s).queueInv := by
  unfold answerNodeReset; split
  · exact queueInv_ite (offerQueued_queueInv (replyFrame_checkGood _ _ _ _) (queueInv_of_frames (s := s) rfl hs))
      (resetNode_queueInv _ s)
  · exact hs

theorem answerStartRollCall_queueInv {src : Source} {s : State} (hs : s.queueInv) :
    (answerStartRollCall src s).queueInv :=
  queueInv_ite (refuse_queueInv hs) (queueInv_ite (refuse_queueInv hs) (leadRollCall_queueInv (reply_queueInv hs)))

theorem answerStop_queueInv {src : Source} {s : State} (hs : s.queueInv) : (answerStop src s).queueInv :=
  queueInv_ite (refuse_queueInv hs) (queueInv_ite (refuse_queueInv hs)
    (queueInv_ite (refuse_queueInv hs) (stopLead_queueInv (reply_queueInv hs))))

theorem answerHeatSetup_queueInv {src : Source} {b : Word} {d : Byte} {p : Word} {s : State} (hs : s.queueInv) :
    (answerHeatSetup src b d p s).queueInv :=
  queueInv_ite (refuse_queueInv hs) (queueInv_ite (refuse_queueInv hs)
    (queueInv_ite (refuse_queueInv hs) (queueInv_of_frames (s := reply src 11 .done [] s) rfl (reply_queueInv hs))))

theorem execute_queueInv {src : Source} {l : List Byte} {s : State} (hs : s.queueInv) : (execute src l s).queueInv := by
  unfold execute; split
  · exact answerReadItems_queueInv hs
  · exact answerWriteItems_queueInv hs
  · exact answerReadTable_queueInv hs
  · exact answerWriteTable_queueInv hs
  · exact answerReadMap_queueInv hs
  · exact answerReadEvents_queueInv hs
  · exact answerStore_queueInv hs
  · exact answerNodeReset_queueInv hs
  · exact answerStartRollCall_queueInv hs
  · exact answerStop_queueInv hs
  · exact answerHeatSetup_queueInv hs

theorem respond_queueInv {src : Source} {l : List Byte} {s : State} (hs : s.queueInv) : (respond src l s).queueInv :=
  queueInv_ite (refuse_queueInv hs) (queueInv_ite (refuse_queueInv hs)
    (queueInv_ite (refuse_queueInv hs) (execute_queueInv hs)))

theorem storeDone_queueInv {s : State} (hs : s.queueInv) : (storeDone s).queueInv := by
  unfold storeDone payOwed; split
  · exact offer_queueInv (replyFrame_checkGood _ _ _ _) (queueInv_of_frames (s := s) rfl hs)
  · exact queueInv_of_frames (s := s) rfl hs

theorem pendingReset_queueInv {s : State} (hs : s.queueInv) : (pendingReset s).queueInv :=
  queueInv_ite (resetNode_queueInv _ s) hs

/-! ### The relay engine -/

theorem passOn_queueInv {e : End} {f : Frame} {r : LineRate} {s : State} (hf : f.checkGood = true) (hs : s.queueInv) :
    (passOn e f r s).queueInv := offer_queueInv hf hs

theorem relayUnplaced_queueInv {e : End} {f : Frame} {r : LineRate} {s : State} (hf : f.checkGood = true)
    (hs : s.queueInv) : (relayUnplaced e f r s).queueInv := by
  unfold relayUnplaced; split
  case h_1 => exact queueInv_ite (takeCall_queueInv hs) (passOn_queueInv hf hs)
  case h_2 => exact passOn_queueInv hf (queueInv_ite (queueInv_of_frames (frames_takeHeatSet _ s) hs) hs)
  all_goals exact passOn_queueInv hf hs

theorem forwardOutward_queueInv {f : Frame} {r : LineRate} {s : State} (hs : s.queueInv) :
    (forwardOutward f r s).queueInv :=
  queueInv_ite hs (offerEnd_queueInv (withHop_checkGood f _) hs)

theorem forwardSweep_queueInv {f : Frame} {r : LineRate} {s : State} (hs : s.queueInv) :
    (forwardSweep f r s).queueInv :=
  queueInv_ite (offerEnd_queueInv (turned_checkGood f _) hs) (offerEnd_queueInv (withHop_checkGood f _) hs)

theorem sweep_queueInv {act : Frame → State → Frame × State} {f : Frame} {r : LineRate} {s : State}
    (ha : (act f s).2.frames = s.frames) (hs : s.queueInv) : (sweep act f r s).queueInv :=
  forwardSweep_queueInv (queueInv_of_frames ha hs)

@[simp] theorem frames_actConfirm (f : Frame) (s : State) : (actConfirm f s).2.frames = s.frames :=
  frames_takeConfirm _ s

@[simp] theorem frames_actSurvey (f : Frame) (s : State) : (actSurvey f s).2.frames = s.frames := by
  unfold actSurvey; split
  · exact frames_takeSurvey _ _ s
  · rfl

@[simp] theorem frames_actHeatPass (f : Frame) (s : State) : (actHeatPass f s).2.frames = s.frames := by
  unfold actHeatPass; split
  · exact frames_computePass _ s
  · rfl

theorem routeRequest_queueInv {f : Frame} {r : LineRate} {s : State} (hs : s.queueInv) :
    (routeRequest f r s).queueInv :=
  queueInv_ite (respond_queueInv hs) (queueInv_ite (queueInv_of_frames (s := s) rfl hs)
    (offerEnd_queueInv (withHop_checkGood f _) hs))

theorem takeOutward_queueInv {f : Frame} {r : LineRate} {s : State} (hs : s.queueInv) :
    (takeOutward f r s).queueInv := by
  have h := queueInv_of_frames (frames_handSource f.src s) hs
  unfold takeOutward; dsimp only; split
  · exact forwardOutward_queueInv (queueInv_of_frames (frames_takeRoster _ _) h)
  · exact forwardOutward_queueInv (queueInv_of_frames (frames_takeOrder _ _) h)
  · exact forwardOutward_queueInv (queueInv_of_frames (frames_takeHeatSet _ _) h)
  · exact sweep_queueInv (frames_actConfirm f _) h
  · exact sweep_queueInv (frames_actSurvey f _) h
  · exact sweep_queueInv (frames_actHeatPass f _) h
  · exact routeRequest_queueInv h
  all_goals exact h

theorem consumeLeadward_queueInv {f : Frame} {r : LineRate} {s : State} (hf : f.checkGood = true) (hs : s.queueInv) :
    (consumeLeadward f r s).queueInv := by
  unfold consumeLeadward; split
  · exact queueInv_of_frames (frames_takeAnswer _ s) hs
  · exact takeTail_queueInv hs
  · exact takeReflectedConfirm_queueInv hs
  · exact takeReflectedSurvey_queueInv hs
  · exact takeReflectedPass_queueInv hs
  · exact offer_queueInv hf hs
  all_goals exact hs

theorem takeLeadward_queueInv {f : Frame} {r : LineRate} {s : State} (hf : f.checkGood = true) (hs : s.queueInv) :
    (takeLeadward f r s).queueInv :=
  queueInv_ite (offerEnd_queueInv hf hs) (queueInv_ite (consumeLeadward_queueInv hf hs) hs)

theorem relayPlaced_queueInv {e : End} {f : Frame} {r : LineRate} {s : State} (hf : f.checkGood = true)
    (hs : s.queueInv) : (relayPlaced e f r s).queueInv := by
  have hd : (directionError s).queueInv := queueInv_of_frames (s := s) rfl hs
  exact queueInv_ite hd (queueInv_ite (takeCall_queueInv hs)
    (queueInv_ite (queueInv_ite hd (takeLeadward_queueInv hf hs)) (queueInv_ite (takeOutward_queueInv hs) hd)))

theorem relayCabLead_queueInv {f : Frame} {r : LineRate} {s : State} (hs : s.queueInv) :
    (relayCabLead f r s).queueInv := by
  have hc : (cabRefusal s).queueInv := queueInv_of_frames (s := s) rfl hs
  have ho := queueInv_of_frames (frames_takeOrder (OrderData.ofPayload f.payload) s) hs
  unfold relayCabLead; dsimp only; split
  case h_1 => exact queueInv_ite (offerEnd_queueInv (fromCab_checkGood f _) ho) ho
  case h_2 => exact queueInv_ite (respond_queueInv hs) (queueInv_ite (offerEnd_queueInv (fromCab_checkGood f _) hs) hc)
  all_goals exact hc

theorem relay_queueInv {p : Port} {f : Frame} {r : LineRate} {s : State} (hf : f.checkGood = true) (hs : s.queueInv) :
    (relay p f r s).queueInv := by
  cases p with
  | line e => exact queueInv_ite (relayPlaced_queueInv hf hs) (relayUnplaced_queueInv hf hs)
  | cab =>
    exact queueInv_ite (relayCabLead_queueInv hs)
      (queueInv_ite (respond_queueInv hs) (queueInv_of_frames (s := s) rfl hs))

/-! ### The line -/

theorem popHead_queueInv {p : Port} {s : State} (hs : s.queueInv) : (popHead p s).queueInv := by
  have h : (restartIdle p (s.setPort p
      { s.port p with queue := (s.port p).queue.tail, attempt := 1, sending := none })).queueInv := by
    refine queueInv_of_frames (frames_restartIdle _ _) (setPort_queueInv ?_ (fun q hq => ?_) hs)
    · have := (hs.1 p).1; simp; omega
    · exact (hs.1 p).2 q (List.mem_of_mem_tail hq)
  unfold popHead; dsimp only; split
  · exact queueInv_ite (pendingReset_queueInv h) h
  · exact h

theorem sent_queueInv {p : Port} {s : State} (hs : s.queueInv) : (sent p s).queueInv := by
  unfold sent; dsimp only; split
  · exact hs
  · exact popHead_queueInv hs
  · exact queueInv_of_frames (by rw [frames_restartIdle, frames_setPort (p := p) (by rfl)]) hs

theorem collide_queueInv {p : Port} {s : State} (hs : s.queueInv) : (collide p s).queueInv := by
  unfold collide; dsimp only; split
  · exact hs
  · exact queueInv_of_frames (by rw [frames_restartIdle, frames_lineError, frames_setPort (p := p) (by rfl)]) hs
  · exact queueInv_ite (queueInv_of_frames (frames_setPort (p := p) (by rfl)) hs)
      (popHead_queueInv (queueInv_of_frames (frames_lineError p s) hs))

/-- A whole frame that comes in: what fails a test is dropped, and what passes is relayed with its good check (R7). -/
theorem receive_queueInv {p : Port} {f : Frame} {s : State} (hs : s.queueInv) : (receive p f s).queueInv := by
  have hd (next : RxState) := queueInv_of_frames (frames_dropFrame p next s) hs
  have hp : (heard p s).queueInv :=
    queueInv_of_frames (by rw [heard, frames_passedChecks, frames_setPort (p := p) (by rfl)]) hs
  unfold receive
  refine queueInv_ite hs (queueInv_ite (hd _) ?_)
  split
  · exact hd _
  · next hf => exact queueInv_ite hp (relay_queueInv (by simpa using hf) hp)

/-! ### Every command -/

theorem event_queueInv {f : State → State} {s t : State} (hf : ∀ s, s.queueInv → (f s).queueInv) (hs : s.queueInv)
    (h : event f s = .next t) : t.queueInv := by
  cases hl : s.supplyLow with
  | true => rw [event_supplyLow f hl] at h; cases h; exact hs
  | false =>
    rw [event_of f hl] at h; cases h
    exact finish_queueInv (hf _ (queueInv_of_frames (frames_begin s) hs))

theorem plainEvent_queueInv {f : State → State} {s t : State} (hf : s.queueInv → (f s).queueInv) (hs : s.queueInv)
    (h : plainEvent f s = .next t) : t.queueInv := by
  cases h
  exact queueInv_ite hs (hf hs)

/-- A command that is a whole frame at a port is that frame received there (log 9); an IDLE leaves nothing to settle. -/
theorem exec_arriving {i : Instr} {p : Port} {f : Frame} (h : i.arriving = some (p, f)) (s : State) :
    (f.kind = .idle ∧ exec i s = plainEvent (receive p f) s) ∨ exec i s = event (receive p f) s := by
  cases i <;> simp only [Instr.arriving, Option.some.injEq, Prod.mk.injEq, reduceCtorEq] at h
  all_goals obtain ⟨rfl, rfl⟩ := h
  case idle => exact .inl ⟨rfl, rfl⟩
  all_goals exact .inr rfl

/-- An expiry whose effect keeps the queue invariant keeps it. -/
theorem onExpiry_queueInv {t : Timer} {f : State → State} (hf : ∀ s, s.queueInv → (f s).queueInv) {s : State}
    (hs : s.queueInv) : (onExpiry t f s).queueInv := by
  cases t with
  | none => exact hs
  | some d => exact hf _ (queueInv_of_frames (frames_reach s d) hs)

/-- An event whose effect leaves the frames alone. -/
theorem event_queueInv_of_frames {f : State → State} {s t : State} (hf : ∀ s, (f s).frames = s.frames)
    (hs : s.queueInv) (h : event f s = .next t) : t.queueInv :=
  event_queueInv (fun u hu => queueInv_of_frames (hf u) hu) hs h

/-- A plain event whose effect leaves the frames alone. -/
theorem plainEvent_queueInv_of_frames {f : State → State} {s t : State} (hf : (f s).frames = s.frames)
    (hs : s.queueInv) (h : plainEvent f s = .next t) : t.queueInv :=
  plainEvent_queueInv (queueInv_of_frames hf) hs h

/-- Every command keeps the queue invariant. -/
theorem exec_queueInv {i : Instr} {s t : State} (hs : s.queueInv) (h : exec i s = .next t) : t.queueInv := by
  cases ha : i.arriving with
  | some a =>
    obtain ⟨p, f⟩ := a
    rcases exec_arriving ha s with ⟨-, e⟩ | e <;> rw [e] at h
    · exact plainEvent_queueInv receive_queueInv hs h
    · exact event_queueInv (fun _ => receive_queueInv) hs h
  | none =>
    cases i
    all_goals simp only [Instr.arriving, reduceCtorEq] at ha
    case syncCharacter p b c => exact plainEvent_queueInv_of_frames (frames_hearSync p b c s) hs h
    case syncError p b c => exact plainEvent_queueInv_of_frames (frames_syncFails p b c s) hs h
    case parityError | lengthError | gapError | checkError =>
      exact plainEvent_queueInv_of_frames (frames_failFrame _ _ _ s) hs h
    case returnToHunt p n => exact plainEvent_queueInv_of_frames (frames_backToHunt p n s) hs h
    case lineBreak p n => exact plainEvent_queueInv_of_frames (frames_takeBreak p n s) hs h
    case lineHoldWatchArmed => exact plainEvent_queueInv_of_frames (f := armWatch) rfl hs h
    case lineHoldReset =>
      exact plainEvent_queueInv
        (fun hs => queueInv_ite (onExpiry_queueInv (fun _ _ => resetNode_queueInv _ _) hs) hs) hs h
    case lockTimerExpiry =>
      exact plainEvent_queueInv_of_frames (frames_onExpiry _ _ s (frames_loseLock .cab .hunt)) hs h
    case silenceTimerExpiry e =>
      exact plainEvent_queueInv_of_frames (frames_onExpiry _ _ s (frames_silenceExpired e)) hs h
    case idleTimerExpiry e =>
      exact plainEvent_queueInv_of_frames (frames_onExpiry _ _ s (fun s => frames_setEnd s e _)) hs h
    case transmitStart p n => exact plainEvent_queueInv_of_frames (frames_startSending p n s) hs h
    case transmitComplete => exact plainEvent_queueInv sent_queueInv hs h
    case collision => exact plainEvent_queueInv collide_queueInv hs h
    case rosterSendList => exact event_queueInv (fun _ => sendListGoesOn_queueInv) hs h
    case storeTimerExpiry => exact plainEvent_queueInv (onExpiry_queueInv (fun _ => storeDone_queueInv)) hs h
    case requestedReset => exact plainEvent_queueInv pendingReset_queueInv hs h
    case callWindowExpiry => exact event_queueInv (fun _ => onExpiry_queueInv (fun _ => windowExpired_queueInv)) hs h
    case placingTimeout =>
      exact event_queueInv_of_frames (fun u => frames_onExpiry _ _ u frames_returnToUnplaced) hs h
    case leadLossExpiry => exact plainEvent_queueInv_of_frames (frames_onExpiry _ _ s frames_leadLossExpired) hs h
    case holdOffExpiry => exact plainEvent_queueInv_of_frames (frames_onExpiry _ _ s frames_holdOffExpired) hs h
    case surveyPeriodExpiry =>
      exact event_queueInv (fun _ => onExpiry_queueInv (fun _ => surveyPeriodExpired_queueInv)) hs h
    case heatingPeriodExpiry =>
      exact event_queueInv (fun _ => onExpiry_queueInv (fun _ => heatingPeriodExpired_queueInv)) hs h
    case passTimeout => exact event_queueInv_of_frames (fun u => frames_onExpiry _ _ u frames_passTimedOut) hs h
    case warnTimerExpiry c | recycleTimerExpiry c =>
      exact event_queueInv_of_frames (fun u => frames_onChannelTimer c _ _ u (frames_enterClosing c)) hs h
    case closeTimerExpiry c =>
      exact event_queueInv_of_frames (fun u => frames_onChannelTimer c _ _ u (frames_closeExpired c)) hs h
    case chimeTimerExpiry => exact event_queueInv_of_frames (fun u => frames_onExpiry _ _ u (frames_chime 0)) hs h
    case tonePhase => exact event_queueInv_of_frames frames_tonePhaseExpired hs h
    case supplySample v =>
      exact event_queueInv_of_frames (fun u => frames_onExpiry _ _ u (frames_supplySample v.toNat)) hs h
    case stageDue => exact event_queueInv_of_frames frames_dueArrives hs h
    case minOffExpiry n =>
      exact event_queueInv_of_frames (fun u => frames_onExpiry _ _ u (frames_minOffExpired n)) hs h
    case holdoverExpiry => exact event_queueInv_of_frames (fun u => frames_onExpiry _ _ u frames_holdoverExpired) hs h
    case rawEdge n a => cases h; exact queueInv_ite hs (queueInv_of_frames (frames_setInput s n _) hs)
    case stabilityTimerExpiry =>
      exact event_queueInv (fun _ => onExpiry_queueInv (fun _ => stabilityExpired_queueInv)) hs h
    case supplyReset => cases h; exact resetBegin_queueInv .supply s
    case supplyAboveUpperThreshold => cases h; exact queueInv_ite (queueInv_of_frames (frames_resetEnd s) hs) hs

/-- Settles O58: the timebase touches no frame, and every command keeps the invariant. -/
theorem stepsKeepQueues : Obligations.StepsKeepQueues := by
  intro s t hs h
  unfold step at h
  split at h
  · refine exec_queueInv ?_ h
    exact queueInv_of_frames (s := s) rfl hs
  · cases h; exact queueInv_of_frames (frames_tick s) hs

end Sys2Proof.Machine
end

section
/-! Facts about the operations of the port units, in the order of the definitions: what each changes, what it leaves
alone, and that the scratch fields of an event have no part in it. -/

namespace Sys2Proof.Machine

/-! ### Ends and ports -/

@[simp] theorem End.other_ne (e : End) : e.other ≠ e := by cases e <;> decide
@[simp] theorem End.ne_other (e : End) : e ≠ e.other := by cases e <;> decide

/-- A timer of an end port and the liveness it stands for. -/
@[simp] theorem alive_setEnd_self (s : State) (e : End) (u : EndUnit) : (s.setEnd e u).alive e = u.silence.isSome := by
  simp [State.alive]

@[simp] theorem alive_setEnd_other (s : State) (e : End) (u : EndUnit) :
    (s.setEnd e u).alive e.other = s.alive e.other := by
  simp [State.alive, endUnit_setEnd_ne s u (End.other_ne e)]

@[simp] theorem port_reach (s : State) (d : Nat) (p : Port) : (s.reach d).port p = s.port p := by
  rcases p with (_ | _) | _ <;> rfl
@[simp] theorem endUnit_reach (s : State) (d : Nat) (e : End) : (s.reach d).endUnit e = s.endUnit e := by
  cases e <;> rfl
@[simp] theorem alive_reach (s : State) (d : Nat) (e : End) : (s.reach d).alive e = s.alive e := by simp [State.alive]
@[simp] theorem present_reach (s : State) (d : Nat) (ev : Event) : (s.reach d).present ev = s.present ev := rfl

@[simp] theorem endUnit_raiseIf (b : Bool) (ev : Event) (s : State) (e : End) :
    (raiseIf b ev s).endUnit e = s.endUnit e := by
  cases b <;> cases e <;> rfl

/-- An event raised under a condition is present where the condition holds (R175). -/
theorem present_raiseIf (b : Bool) (ev x : Event) (s : State) :
    (raiseIf b ev s).present x = (s.present x || (b && x == ev)) := by
  cases b
  · simp [raiseIf]
  · simp [raiseIf, present_raise_iff]

@[simp] theorem present_setPort (s : State) (p : Port) (u : PortUnit) (ev : Event) :
    (s.setPort p u).present ev = s.present ev := by simp [State.present]

@[simp] theorem present_setEnd (s : State) (e : End) (u : EndUnit) (ev : Event) :
    (s.setEnd e u).present ev = s.present ev := by simp [State.present]

/-! ### The scratch fields of an event -/

/-- The state with other scratch fields (log 26). -/
def State.withScratch (s : State) (c : Scratch) : State := { s with scratch := c }

theorem begin_eq_withScratch (s : State) : begin s = s.withScratch ⟨s.teff, false, none⟩ := rfl

@[simp] theorem withScratch_scratch (s : State) (c : Scratch) : (s.withScratch c).scratch = c := rfl

/-- A choice commutes with the scratch fields where both of its ways do. -/
theorem withScratch_ite {p : Prop} [Decidable p] {a b a' b' : State} {c : Scratch} (ha : a' = a.withScratch c)
    (hb : b' = b.withScratch c) : (if p then a' else b') = (if p then a else b).withScratch c := by
  split <;> assumption

section

variable (s : State) (c : Scratch)

@[simp] theorem port_withScratch (p : Port) : (s.withScratch c).port p = s.port p := by
  rcases p with (_ | _) | _ <;> rfl
@[simp] theorem setPort_withScratch (p : Port) (u : PortUnit) :
    (s.withScratch c).setPort p u = (s.setPort p u).withScratch c := by rcases p with (_ | _) | _ <;> rfl
@[simp] theorem endUnit_withScratch (e : End) : (s.withScratch c).endUnit e = s.endUnit e := by cases e <;> rfl
@[simp] theorem setEnd_withScratch (e : End) (u : EndUnit) :
    (s.withScratch c).setEnd e u = (s.setEnd e u).withScratch c := by cases e <;> rfl
@[simp] theorem alive_withScratch (e : End) : (s.withScratch c).alive e = s.alive e := by simp [State.alive]
@[simp] theorem raise_withScratch (ev : Event) : raise ev (s.withScratch c) = (raise ev s).withScratch c := rfl
@[simp] theorem raiseIf_withScratch (b : Bool) (ev : Event) :
    raiseIf b ev (s.withScratch c) = (raiseIf b ev s).withScratch c := by cases b <;> rfl
@[simp] theorem comparison_withScratch (e : End) : (s.withScratch c).comparison e = s.comparison e := by cases e <;> rfl
@[simp] theorem setComparison_withScratch (e : End) (x : Comparison) :
    (s.withScratch c).setComparison e x = (s.setComparison e x).withScratch c := by cases e <;> rfl

@[simp] theorem offerQueued_withScratch (p : Port) (q : Queued) :
    offerQueued p q (s.withScratch c) = (offerQueued p q s).withScratch c := by
  simp only [offerQueued, port_withScratch, setPort_withScratch, raise_withScratch]
  exact withScratch_ite rfl rfl

@[simp] theorem offer_withScratch (p : Port) (f : Frame) (r : LineRate) :
    offer p f r (s.withScratch c) = (offer p f r s).withScratch c := offerQueued_withScratch s c p ⟨f, r, false⟩

@[simp] theorem dropFrame_withScratch (p : Port) (next : RxState) :
    dropFrame p next (s.withScratch c) = (dropFrame p next s).withScratch c := by simp [dropFrame]

@[simp] theorem enterStale_withScratch : enterStale (s.withScratch c) = (enterStale s).withScratch c :=
  withScratch_ite rfl rfl

@[simp] theorem compareEnd_withScratch (e : End) : compareEnd e (s.withScratch c) = (compareEnd e s).withScratch c := by
  refine withScratch_ite ?_ rfl
  simp only [alive_withScratch, comparison_withScratch, setComparison_withScratch, raiseIf_withScratch]
  rfl

@[simp] theorem presenceChanged_withScratch (e : End) :
    presenceChanged e (s.withScratch c) = (presenceChanged e s).withScratch c := by simp [presenceChanged]

@[simp] theorem restartSilence_withScratch (e : End) :
    restartSilence e (s.withScratch c) = (restartSilence e s).withScratch c := by
  simp only [restartSilence, alive_withScratch, endUnit_withScratch, setEnd_withScratch, presenceChanged_withScratch]
  exact withScratch_ite rfl rfl

@[simp] theorem passedChecks_withScratch (p : Port) :
    passedChecks p (s.withScratch c) = (passedChecks p s).withScratch c := by
  cases p with
  | line e => exact restartSilence_withScratch s c e
  | cab => exact withScratch_ite rfl rfl

@[simp] theorem heard_withScratch (p : Port) : heard p (s.withScratch c) = (heard p s).withScratch c := by simp [heard]

@[simp] theorem returnToUnplaced_withScratch :
    returnToUnplaced (s.withScratch c) = (returnToUnplaced s).withScratch c := withScratch_ite rfl rfl

@[simp] theorem sendTail_withScratch (e : End) (d : TailData) :
    sendTail e d (s.withScratch c) = (sendTail e d s).withScratch c := offer_withScratch s c _ _ _

@[simp] theorem takeAnswer_withScratch (l : List Byte) :
    takeAnswer l (s.withScratch c) = (takeAnswer l s).withScratch c := withScratch_ite rfl rfl

end

/-! ### An event that moves neither doors nor energizer -/

/-- The end of an event that has left the doors, the effective target, the energized level and the raise schedule as
they were, and owes no LEAD STATUS: it only clears the scratch fields (R124, R146, R150). -/
theorem finish_unmoved {s t : State} (hr : s.atRest) (hd : t.doors = s.doors) (ht : t.teff = s.teff)
    (hl : t.heat.level = s.heat.level) (hra : t.heat.raise = s.heat.raise) (hs : t.scratch = s.scratch) :
    finish (t.withScratch ⟨s.teff, false, none⟩) = t := by
  obtain ⟨h0, h1, h2, h3⟩ := hr
  set t' := t.withScratch ⟨s.teff, false, none⟩ with ht'
  have ht1 : t'.teff = s.teff := ht
  have h1' : settleTone t' = t' := settleTone_of (s := t') (by
    rw [toneDemand_congr (s := s) (t := t') hd, ← h1]; exact congrArg (·.tone.isSome) hd)
  have h2' : settleHeat t' = t' := settleHeat_of (s := t') (by rw [ht1]; exact hl.trans_le h2)
    (fun h => by rw [ht1]; exact hl.trans_lt (h3 (by rwa [← hra]))) ht1.symm
  unfold finish
  rw [h1', h2', flushStatus_of rfl, ← h0, ← hs]
  rfl

/-- The effective target does not read the cycle record and the grant (R144, R146, R163). -/
theorem teff_congr_record {s t : State} (hd : t.doors = s.doors)
    (hh : { t.heat with cycleRec := s.heat.cycleRec, grant := s.heat.grant } = s.heat) (hi : t.inputs = s.inputs)
    (hm : t.items = s.items) : t.teff = s.teff :=
  teff_congr (t := { t with heat := { t.heat with cycleRec := s.heat.cycleRec, grant := s.heat.grant } }) hd hh hi hm

/-! ### Sync characters (R2) -/

theorem inWindow_iff (r : LineRate) (b : Nat) : inWindow r b = true ↔ (rateWindow r).1 ≤ b ∧ b ≤ (rateWindow r).2 := by
  simp [inWindow]

/-- The windows of the four rates do not overlap (R2). -/
theorem inWindow_unique {r r' : LineRate} {b : Nat} (h : inWindow r b = true) (h' : inWindow r' b = true) : r = r' := by
  rw [inWindow_iff] at h h'
  cases r <;> cases r' <;> simp only [rateWindow] at h h' <;> first | rfl | omega

/-- The rate of a bit time is the one whose window holds it. -/
theorem rateOf_eq_some {r : LineRate} {b : Nat} (h : inWindow r b = true) : rateOf b = some r := by
  have hs : (rateOf b).isSome = true := by
    rw [rateOf, List.find?_isSome]
    exact ⟨r, by cases r <;> simp, h⟩
  obtain ⟨r', hr'⟩ := Option.isSome_iff_exists.1 hs
  rw [hr', inWindow_unique h (List.find?_some (p := fun r => inWindow r b) hr')]

/-- A sync character in the window of a rate the port may take passes its test (R2). -/
theorem syncRate_of_good {lock : Option LineRate} {b : Nat} {c : Character} {r : LineRate} (hd : c.data = syncByte)
    (hc : charGood c = true) (hw : inWindow r b = true) (hl : lock = none ∨ lock = some r) :
    syncRate lock b c = some r := by
  rcases hl with rfl | rfl
  · simp [syncRate, hd, hc, rateOf_eq_some hw]
  · simp [syncRate, hd, hc, hw]

/-- A rate that the sync test gives comes from a good sync character in that rate's window, at a port that may take
it. -/
theorem good_of_syncRate {lock : Option LineRate} {b : Nat} {c : Character} {r : LineRate}
    (h : syncRate lock b c = some r) :
    c.data = syncByte ∧ charGood c = true ∧ inWindow r b = true ∧ (lock = none ∨ lock = some r) := by
  unfold syncRate at h
  split at h
  · next hg =>
    refine ⟨hg.1, hg.2, ?_⟩
    split at h
    · exact ⟨List.find?_some (p := fun r => inWindow r b) h, .inl rfl⟩
    · split at h
      · next hw => cases h; exact ⟨hw, .inr rfl⟩
      · cases h
  · cases h

theorem listening_iff (u : PortUnit) : u.listening = true ↔ u.rx = .hunt ∧ u.sending = none := by
  simp [PortUnit.listening]

/-- A listening port takes a sync character that passes the test (R2). -/
theorem hearSync_taken {p : Port} {b : Nat} {c : Character} {s : State} {r : LineRate}
    (hl : (s.port p).listening = true)
    (hr : syncRate (s.port p).lock b c = some r) : hearSync p b c s = takeSync p r s := by
  simp [hearSync, hl, hr]

/-- A listening port drops one that fails it, under either command (R2, R8). -/
theorem hearSync_dropped {p : Port} {b : Nat} {c : Character} {s : State} (hl : (s.port p).listening = true)
    (hr : syncRate (s.port p).lock b c = none) : hearSync p b c s = dropFrame p .discarding s := by
  simp [hearSync, hl, hr]

theorem syncFails_dropped {p : Port} {b : Nat} {c : Character} {s : State} (hl : (s.port p).listening = true)
    (hr : syncRate (s.port p).lock b c = none) : syncFails p b c s = dropFrame p .discarding s := by
  simp [syncFails, hl, hr]

@[simp] theorem port_restartLock (p q : Port) (s : State) : (restartLock p s).port q = s.port q := by
  cases p <;> rcases q with (_ | _) | _ <;> rfl

/-- A sync character taken: the port locked and assembling, and the cab port's lock timer started as it takes a lock
(R2, R3). -/
theorem takeSync_port (p : Port) (r : LineRate) (s : State) :
    (takeSync p r s).port p = { s.port p with lock := some r, rx := .assembling, buffer := [syncByte] } := by
  unfold takeSync; dsimp only; split <;> simp

theorem takeSync_port_ne {p q : Port} (r : LineRate) (s : State) (h : q ≠ p) : (takeSync p r s).port q = s.port q := by
  unfold takeSync; dsimp only; split <;> simp [port_setPort_ne s _ h]

theorem takeSync_cab (p : Port) (r : LineRate) (s : State) :
    (takeSync p r s).cab = if p = .cab ∧ (s.port p).lock = none then
      { s.cab with lockTimer := some (s.now + s.itemN Item.silence) } else s.cab := by
  unfold takeSync; dsimp only
  by_cases h : (s.port p).lock = none
  · rcases p with (_ | _) | _ <;> simp [h, restartLock]
    rfl
  · simp [h]

theorem takeSync_rest (p : Port) (r : LineRate) (s : State) :
    OnlyPorts { s with cab := (takeSync p r s).cab } (takeSync p r s) := by
  unfold takeSync; dsimp only
  split <;> rcases p with (_ | _) | _ <;> rfl

/-! ### Failed frames (R5 to R8) -/

theorem failFrame_of {p : Port} {fails : Bool} {s : State} (next : RxState) (hr : (s.port p).rx = .assembling)
    (hf : fails = true) : failFrame p fails next s = dropFrame p next s := by
  simp [failFrame, hr, hf]

/-! ### Loss of the rate lock (R3, R9) -/

@[simp] theorem port_stopLock (p q : Port) (s : State) : (stopLock p s).port q = s.port q := by
  cases p <;> rcases q with (_ | _) | _ <;> rfl

@[simp] theorem present_stopLock (p : Port) (s : State) (ev : Event) : (stopLock p s).present ev = s.present ev := by
  cases p <;> rfl

/-- Everything that the loss of a lock can do: with a frame in assembly that frame is dropped besides. -/
theorem loseLock_cases (p : Port) (next : RxState) (s : State) :
    ((s.port p).rx = .assembling ∧
      loseLock p next s = dropFrame p next (stopLock p (s.setPort p { s.port p with lock := none }))) ∨
    ((s.port p).rx ≠ .assembling ∧ loseLock p next s = stopLock p (s.setPort p { s.port p with lock := none })) := by
  unfold loseLock
  by_cases h : (s.port p).rx = .assembling <;> simp [h]

theorem loseLock_port (p : Port) (next : RxState) (s : State) :
    (loseLock p next s).port p = if (s.port p).rx = .assembling then
      { s.port p with lock := none, rx := next, buffer := [], lineErrors := min 255 ((s.port p).lineErrors + 1) }
    else { s.port p with lock := none } := by
  rcases loseLock_cases p next s with ⟨h, e⟩ | ⟨h, e⟩ <;> simp [e, h, dropFrame, satInc]

theorem loseLock_port_hunt (p : Port) (s : State) : (loseLock p .hunt s).port p = (s.port p).unlocked :=
  loseLock_port p .hunt s

theorem loseLock_port_ne {p q : Port} (next : RxState) (s : State) (h : q ≠ p) :
    (loseLock p next s).port q = s.port q := by
  rcases loseLock_cases p next s with ⟨-, e⟩ | ⟨-, e⟩ <;> simp [e, dropFrame, port_setPort_ne _ _ h]

/-- LINE_ERROR is raised where a frame was in assembly (R8). -/
theorem loseLock_present (p : Port) (next : RxState) (s : State) (ev : Event) :
    (loseLock p next s).present ev = (s.present ev || (ev == .lineError && (s.port p).rx == .assembling)) := by
  rcases loseLock_cases p next s with ⟨h, e⟩ | ⟨h, e⟩ <;> simp [e, h, dropFrame, present_raise_iff]

theorem loseLock_cab (p : Port) (next : RxState) (s : State) : (loseLock p next s).cab = (stopLock p s).cab := by
  rcases loseLock_cases p next s with ⟨-, e⟩ | ⟨-, e⟩ <;> rw [e] <;> rcases p with (_ | _) | _ <;> rfl

theorem loseLock_rest (p : Port) (next : RxState) (s : State) :
    { loseLock p next s with pu1 := s.pu1, pu2 := s.pu2, puC := s.puC, events := s.events, cab := s.cab } = s := by
  rcases loseLock_cases p next s with ⟨-, e⟩ | ⟨-, e⟩ <;> rw [e] <;> rcases p with (_ | _) | _ <;> rfl

@[simp] theorem loseLock_consist (p : Port) (next : RxState) (s : State) : (loseLock p next s).consist = s.consist :=
  congrArg (·.consist) (loseLock_rest p next s)

@[simp] theorem endUnit_loseLock (p : Port) (next : RxState) (s : State) (e : End) :
    (loseLock p next s).endUnit e = s.endUnit e := congrArg (·.endUnit e) (loseLock_rest p next s)

/-! ### Breaks and the line-hold watch (R9, R10) -/

/-- The two character times of a break are less than 2 ms at every rate (log 13). -/
theorem breakTime_le (lock : Option LineRate) : breakTime lock ≤ 1 := by
  rcases lock with _ | (_ | _ | _ | _) <;> decide

/-- The watch at a break changes what the cab port holds for it, and nothing else. -/
theorem watchBreak_eq (p : Port) (lock : Option LineRate) (s : State) :
    watchBreak p lock s = { s with cab := (watchBreak p lock s).cab } := by
  unfold watchBreak; repeat' split
  all_goals rfl

@[simp] theorem port_watchBreak (p q : Port) (lock : Option LineRate) (s : State) :
    (watchBreak p lock s).port q = s.port q := by
  rw [watchBreak_eq]; rcases q with (_ | _) | _ <;> rfl

@[simp] theorem present_watchBreak (p : Port) (lock : Option LineRate) (s : State) (ev : Event) :
    (watchBreak p lock s).present ev = s.present ev := by
  rw [watchBreak_eq]; rfl

/-- An ARMED watch enters TIMING at a break on the cab port (R10). -/
theorem watchBreak_armed {s : State} (lock : Option LineRate) (h : s.cab.watch = .armed) :
    (watchBreak .cab lock s).cab =
      { s.cab with watch := .timing, holdTimer := some (s.now + (150 - breakTime lock)) } := by
  simp [watchBreak, h, State.start, lineHoldTime]

theorem watchBreak_unarmed {s : State} (lock : Option LineRate) (h : s.cab.watch ≠ .armed) :
    watchBreak .cab lock s = s := by
  simp [watchBreak, h]

/-! ### Presence and sense comparison (R72 to R76) -/

theorem enterStale_state (s : State) :
    (enterStale s).consist.state = if s.consist.state = .placed then .stale else s.consist.state := by
  rcases enterStale_cases s with ⟨h, e⟩ | ⟨h, e⟩ <;> simp [e, h]

theorem enterStale_present (s : State) (ev : Event) :
    (enterStale s).present ev = (s.present ev || (ev == .stale && s.consist.state == .placed)) := by
  rcases enterStale_cases s with ⟨h, e⟩ | ⟨h, e⟩ <;> rw [e]
  · rw [present_raise_iff, h]; simp [State.present]
  · simp [h]

/-- An event raised under a condition touches the event set alone. -/
theorem raiseIf_eq (b : Bool) (ev : Event) (s : State) : ∃ evs, raiseIf b ev s = { s with events := evs } := by
  cases b <;> exact ⟨_, rfl⟩

/-- A comparison is not made, or it is set and the event set may change (R74). -/
theorem compareEnd_cases (e : End) (s : State) :
    compareEnd e s = s ∨ ∃ c evs, compareEnd e s = { s.setComparison e c with events := evs } := by
  unfold compareEnd; split
  · obtain ⟨ev1, h1⟩ := raiseIf_eq (s.comparison e ≠ comparisonOf (s.active (.cpl e)) (s.alive e) ∧
      comparisonOf (s.active (.cpl e)) (s.alive e) = .senseMismatch) .senseMismatch
      (s.setComparison e (comparisonOf (s.active (.cpl e)) (s.alive e)))
    dsimp only
    rw [h1]
    obtain ⟨ev2, h2⟩ := raiseIf_eq (s.comparison e ≠ comparisonOf (s.active (.cpl e)) (s.alive e) ∧
      comparisonOf (s.active (.cpl e)) (s.alive e) = .segmentFault) .segmentFault
      { s.setComparison e (comparisonOf (s.active (.cpl e)) (s.alive e)) with events := ev1 }
    exact .inr ⟨_, ev2, h2⟩
  · exact .inl rfl

/-- A comparison raises only its own two events (R74). -/
theorem compareEnd_present (e : End) (s : State) {ev : Event} (h1 : ev ≠ .segmentFault) (h2 : ev ≠ .senseMismatch) :
    (compareEnd e s).present ev = s.present ev := by
  unfold compareEnd; split
  · simp only [present_raiseIf, beq_false_of_ne h1, beq_false_of_ne h2, Bool.and_false, Bool.or_false]
    cases e <;> rfl
  · rfl

/-- A change of presence changes the event set, the node consist state and the comparisons, and nothing else. -/
theorem presenceChanged_eq (e : End) (s : State) : presenceChanged e s = { s with
    events := (presenceChanged e s).events
    consist := { s.consist with
      state := (presenceChanged e s).consist.state
      comp1 := (presenceChanged e s).consist.comp1
      comp2 := (presenceChanged e s).consist.comp2 } } := by
  unfold presenceChanged
  rcases compareEnd_cases e (enterStale s) with h | ⟨c, evs, h⟩ <;> rw [h] <;>
    rcases enterStale_cases s with ⟨-, h'⟩ | ⟨-, h'⟩ <;> rw [h'] <;> cases e <;> rfl

theorem presenceChanged_state (e : End) (s : State) :
    (presenceChanged e s).consist.state = if s.consist.state = .placed then .stale else s.consist.state := by
  rw [← enterStale_state, presenceChanged]
  rcases compareEnd_cases e (enterStale s) with h | ⟨c, evs, h⟩ <;> rw [h]
  cases e <;> rfl

theorem presenceChanged_present (e : End) (s : State) {ev : Event} (h1 : ev ≠ .segmentFault)
    (h2 : ev ≠ .senseMismatch) :
    (presenceChanged e s).present ev = (s.present ev || (ev == .stale && s.consist.state == .placed)) := by
  rw [presenceChanged, compareEnd_present e _ h1 h2, enterStale_present]

/-! ### A frame that has passed its checks (R3, R7, R11) -/

/-- The silence timer of an end restarts, and its presence changes where it was not alive (R11, R72). -/
theorem restartSilence_cases (e : End) (s : State) :
    (s.alive e = true ∧
      restartSilence e s = s.setEnd e { s.endUnit e with silence := s.start (s.itemN Item.silence) }) ∨
    (s.alive e = false ∧ restartSilence e s =
      presenceChanged e (s.setEnd e { s.endUnit e with silence := s.start (s.itemN Item.silence) })) := by
  unfold restartSilence
  cases h : s.alive e <;> simp

@[simp] theorem port_presenceChanged (e : End) (s : State) (p : Port) : (presenceChanged e s).port p = s.port p := by
  rw [presenceChanged_eq]; rcases p with (_ | _) | _ <;> rfl

@[simp] theorem endUnit_presenceChanged (e f : End) (s : State) : (presenceChanged e s).endUnit f = s.endUnit f := by
  rw [presenceChanged_eq]; cases f <;> rfl

@[simp] theorem port_restartSilence (e : End) (s : State) (p : Port) : (restartSilence e s).port p = s.port p := by
  rcases restartSilence_cases e s with ⟨-, h⟩ | ⟨-, h⟩ <;> simp [h]

theorem restartSilence_endUnit (e : End) (s : State) :
    (restartSilence e s).endUnit e = { s.endUnit e with silence := some (s.now + s.itemN Item.silence) } := by
  rcases restartSilence_cases e s with ⟨-, h⟩ | ⟨-, h⟩ <;> simp [h, State.start]

theorem restartSilence_state (e : End) (s : State) : (restartSilence e s).consist.state =
    if s.alive e = false ∧ s.consist.state = .placed then .stale else s.consist.state := by
  rcases restartSilence_cases e s with ⟨h, h'⟩ | ⟨h, h'⟩ <;> simp [h, h', presenceChanged_state]

section heard

variable (p : Port) (e : End) (s : State)

/-- A frame heard at an end port changes the ports, the end timers, the event set, the node consist state and the
comparisons, and nothing else. -/
theorem heard_line_eq : heard (.line e) s = { s with
    pu1 := (heard (.line e) s).pu1
    pu2 := (heard (.line e) s).pu2
    end1 := (heard (.line e) s).end1
    end2 := (heard (.line e) s).end2
    events := (heard (.line e) s).events
    consist := { s.consist with
      state := (heard (.line e) s).consist.state
      comp1 := (heard (.line e) s).consist.comp1
      comp2 := (heard (.line e) s).consist.comp2 } } := by
  unfold heard passedChecks; dsimp only
  rcases restartSilence_cases e (s.setPort (.line e) { s.port (.line e) with rx := .hunt, buffer := [] }) with
    ⟨-, h⟩ | ⟨-, h⟩ <;> rw [h]
  · cases e <;> rfl
  · rw [presenceChanged_eq]; cases e <;> rfl

@[simp] theorem heard_port : (heard p s).port p = { s.port p with rx := .hunt, buffer := [] } := by
  cases p with
  | line e => simp [heard, passedChecks]
  | cab => unfold heard passedChecks; dsimp only; split <;> simp

theorem heard_port_ne {q : Port} (h : q ≠ p) : (heard p s).port q = s.port q := by
  cases p with
  | line e => simp [heard, passedChecks, port_setPort_ne s _ h]
  | cab => unfold heard passedChecks; dsimp only; split <;> simp [port_setPort_ne s _ h]

@[simp] theorem heard_queue (q : Port) : ((heard p s).port q).queue = (s.port q).queue := by
  by_cases h : q = p
  · subst h; simp
  · rw [heard_port_ne p s h]

theorem heard_endUnit :
    ((heard (.line e) s).endUnit e) = { s.endUnit e with silence := some (s.now + s.itemN Item.silence) } := by
  simp [heard, passedChecks, restartSilence_endUnit, State.itemN, State.item]

theorem heard_state : (heard (.line e) s).consist.state =
    if s.alive e = false ∧ s.consist.state = .placed then .stale else s.consist.state := by
  simp [heard, passedChecks, restartSilence_state]

@[simp] theorem heard_alive_other : (heard (.line e) s).alive e.other = s.alive e.other := by
  have h : (heard (.line e) s).endUnit e.other = s.endUnit e.other := by
    unfold heard passedChecks; dsimp only
    rcases restartSilence_cases e (s.setPort (.line e) { s.port (.line e) with rx := .hunt, buffer := [] }) with
      ⟨-, h⟩ | ⟨-, h⟩ <;> simp [h, endUnit_setEnd_ne _ _ (End.other_ne e)]
  simp [State.alive, h]

/-- A frame heard at any port touches the ports, their timers, the event set and the consist unit alone. -/
theorem heard_rest : { heard p s with
      pu1 := s.pu1, pu2 := s.pu2, puC := s.puC, end1 := s.end1, end2 := s.end2, cab := s.cab, events := s.events,
      consist := { (heard p s).consist with
        state := s.consist.state, comp1 := s.consist.comp1, comp2 := s.consist.comp2 } } = s := by
  cases p with
  | line e => rw [heard_line_eq]
  | cab => unfold heard passedChecks; dsimp only; split <;> rfl

/-! What a frame heard leaves alone, field by field. -/

@[simp] theorem heard_now : (heard p s).now = s.now := congrArg (·.now) (heard_rest p s)
@[simp] theorem heard_identity : (heard p s).identity = s.identity := congrArg (·.identity) (heard_rest p s)
@[simp] theorem heard_supplyLow : (heard p s).supplyLow = s.supplyLow := congrArg (·.supplyLow) (heard_rest p s)
@[simp] theorem heard_lead : (heard p s).lead = s.lead := congrArg (·.lead) (heard_rest p s)
@[simp] theorem heard_survey : (heard p s).survey = s.survey := congrArg (·.survey) (heard_rest p s)
@[simp] theorem heard_seq : (heard p s).seq = s.seq := congrArg (·.seq) (heard_rest p s)
@[simp] theorem heard_orders : (heard p s).orders = s.orders := congrArg (·.orders) (heard_rest p s)
@[simp] theorem heard_dispatch : (heard p s).dispatch = s.dispatch := congrArg (·.dispatch) (heard_rest p s)
@[simp] theorem heard_doors : (heard p s).doors = s.doors := congrArg (·.doors) (heard_rest p s)
@[simp] theorem heard_heat : (heard p s).heat = s.heat := congrArg (·.heat) (heard_rest p s)
@[simp] theorem heard_inputs : (heard p s).inputs = s.inputs := congrArg (·.inputs) (heard_rest p s)
@[simp] theorem heard_items : (heard p s).items = s.items := congrArg (·.items) (heard_rest p s)
@[simp] theorem heard_mgmt : (heard p s).mgmt = s.mgmt := congrArg (·.mgmt) (heard_rest p s)
@[simp] theorem heard_scratch : (heard p s).scratch = s.scratch := congrArg (·.scratch) (heard_rest p s)
@[simp] theorem heard_pending : (heard p s).pending = s.pending := congrArg (·.pending) (heard_rest p s)
@[simp] theorem heard_directionErrors : (heard p s).directionErrors = s.directionErrors :=
  congrArg (·.directionErrors) (heard_rest p s)
@[simp] theorem heard_cabRefusals : (heard p s).cabRefusals = s.cabRefusals := congrArg (·.cabRefusals) (heard_rest p s)
@[simp] theorem heard_position : (heard p s).consist.position = s.consist.position :=
  congrArg (·.consist.position) (heard_rest p s)
@[simp] theorem heard_leadEnd : (heard p s).consist.leadEnd = s.consist.leadEnd :=
  congrArg (·.consist.leadEnd) (heard_rest p s)
@[simp] theorem heard_table : (heard p s).consist.table = s.consist.table :=
  congrArg (·.consist.table) (heard_rest p s)
@[simp] theorem heard_length : (heard p s).consist.length = s.consist.length :=
  congrArg (·.consist.length) (heard_rest p s)
@[simp] theorem heard_check : (heard p s).consist.check = s.consist.check :=
  congrArg (·.consist.check) (heard_rest p s)
@[simp] theorem heard_placing : (heard p s).consist.placing = s.consist.placing :=
  congrArg (·.consist.placing) (heard_rest p s)
@[simp] theorem heard_holdOff : (heard p s).consist.holdOff = s.consist.holdOff :=
  congrArg (·.consist.holdOff) (heard_rest p s)
@[simp] theorem heard_leadLoss : (heard p s).consist.leadLoss = s.consist.leadLoss :=
  congrArg (·.consist.leadLoss) (heard_rest p s)

/-- A frame heard can make PLACED STALE, and so never takes a node's position (R23, R73). -/
@[simp] theorem heard_holdsPosition : (heard p s).holdsPosition = s.holdsPosition := by
  cases p with
  | line e =>
    unfold State.holdsPosition
    rw [heard_state]
    cases s.alive e <;> cases h : s.consist.state <;> simp
  | cab => unfold heard passedChecks; dsimp only; split <;> rfl

end heard

/-! ### A whole frame received -/

/-- A frame with good length and a bad check is dropped (R7). -/
theorem receive_badCheck {p : Port} {f : Frame} {s : State} (hr : (s.port p).rx = .assembling)
    (hl : lengthGood f.kind f.payload = true) (hc : f.checkGood = false) : receive p f s = dropFrame p .hunt s := by
  simp [receive, hr, hl, hc]

/-- An IDLE heard goes no further (R7, R12). -/
theorem receive_idle {p : Port} {f : Frame} {s : State} (h : Heard p f s) (hk : f.kind = .idle) :
    receive p f s = heard p s := by
  obtain ⟨-, -, hr, hl, hc⟩ := h
  rw [hk] at hl
  simp [receive, heard, hr, hl, hc, hk]

/-- Any other frame heard is handed to the relay engine (R7, R22). -/
theorem exec_heard {i : Instr} {p : Port} {f : Frame} {s : State} (ha : i.arriving = some (p, f)) (h : Heard p f s)
    (hk : f.kind ≠ .idle) : exec i s =
      .next (finish (relay p f (s.rateAt p) ((heard p s).withScratch ⟨s.teff, false, none⟩))) := by
  obtain ⟨hs, -, hr, hl, hc⟩ := h
  rcases exec_arriving ha s with ⟨h, -⟩ | e
  · exact absurd h hk
  · rw [e, event_of _ hs, ← heard_withScratch, begin_eq_withScratch]
    simp only [receive, port_withScratch, hr, hl, hc, hk]
    rfl

/-- A frame that the relay engine takes without moving doors, heating (but for the cycle record), inputs or items, and
without a LEAD STATUS owed: nothing is left to settle, and the command gives what the relay engine gave. -/
theorem exec_heard_unmoved {i : Instr} {p : Port} {f : Frame} {s t : State} (ha : i.arriving = some (p, f))
    (h : Heard p f s) (hk : f.kind ≠ .idle)
    (hrelay : ∀ c, relay p f (s.rateAt p) ((heard p s).withScratch c) = t.withScratch c) (hd : t.doors = s.doors)
    (hh : { t.heat with cycleRec := s.heat.cycleRec, grant := s.heat.grant } = s.heat) (hi : t.inputs = s.inputs)
    (hm : t.items = s.items) (hs : t.scratch = s.scratch) : exec i s = .next t := by
  have hl : t.heat.level = s.heat.level := congrArg (·.level) hh
  have hr : t.heat.raise = s.heat.raise := congrArg (·.raise) hh
  rw [exec_heard ha h hk, hrelay, finish_unmoved h.2.1 hd (teff_congr_record hd hh hi hm) hl hr hs]

/-- The same where the heating unit is untouched. -/
theorem exec_heard_quiet {i : Instr} {p : Port} {f : Frame} {s t : State} (ha : i.arriving = some (p, f))
    (h : Heard p f s) (hk : f.kind ≠ .idle)
    (hrelay : ∀ c, relay p f (s.rateAt p) ((heard p s).withScratch c) = t.withScratch c) (hd : t.doors = s.doors)
    (hh : t.heat = s.heat) (hi : t.inputs = s.inputs) (hm : t.items = s.items) (hs : t.scratch = s.scratch) :
    exec i s = .next t :=
  exec_heard_unmoved ha h hk hrelay hd (by rw [hh]) hi hm hs

end Sys2Proof.Machine
end

section
/-! The statements about sync characters, failed frames, breaks and lost locks. -/

namespace Sys2Proof.Machine

/-- Settles O5: the sync test gives a rate exactly where a good sync character lies in a window the port may take. -/
theorem syncCharactersAreJudged : Obligations.SyncCharactersAreJudged := by
  intro p b c s hs hr hn
  have hl : (s.port p).listening = true := (listening_iff _).2 ⟨hr, hn⟩
  refine ⟨fun r hd hc h1 h2 hk => ?_, fun h => ?_⟩
  · have hrate := syncRate_of_good hd hc ((inWindow_iff r b).2 ⟨h1, h2⟩) hk
    refine ⟨takeSync p r s, ?_, takeSync_port p r s, takeSync_cab p r s, fun q hq => takeSync_port_ne r s hq,
      takeSync_rest p r s⟩
    rw [← hearSync_taken hl hrate]
    exact plainEvent_of _ hs
  · have hrate : syncRate (s.port p).lock b c = none := by
      cases hg : syncRate (s.port p).lock b c with
      | none => rfl
      | some r =>
        obtain ⟨hd, hc, hw, hk⟩ := good_of_syncRate hg
        obtain ⟨h1, h2⟩ := h hd hc r ((inWindow_iff r b).1 hw).1 ((inWindow_iff r b).1 hw).2
        exact (hk.elim h1 h2).elim
    refine ⟨dropFrame p .discarding s, ?_, ?_, dropFrame_dropped p .discarding s⟩
    · rw [← hearSync_dropped hl hrate]; exact plainEvent_of _ hs
    · rw [← syncFails_dropped hl hrate]; exact plainEvent_of _ hs

/-- A frame with good length and a bad check is dropped as a CHECK_ERROR is, whichever command brings it (R7; log 9). -/
theorem exec_badCheck {i : Instr} {p : Port} {f : Frame} {s : State} (ha : i.arriving = some (p, f))
    (hs : s.supplyLow = false) (hrest : s.atRest) (hr : (s.port p).rx = .assembling)
    (hl : lengthGood f.kind f.payload = true) (hc : f.checkGood = false) :
    exec i s = .next (dropFrame p .hunt s) := by
  rcases exec_arriving ha s with ⟨-, e⟩ | e <;> rw [e]
  · rw [plainEvent_of _ hs, receive_badCheck hr hl hc]
  · rw [event_of _ hs, begin_eq_withScratch, receive_badCheck (by simpa using hr) hl hc, dropFrame_withScratch]
    rw [finish_unmoved hrest] <;> simp [dropFrame]
    exact teff_congr (by simp) (by simp) (by simp) (by simp)

/-- Settles O6: each failure is the drop of R8, and a port in DISCARDING waits for more than 4 character times of
mark. -/
theorem failedFramesAreDropped : Obligations.FailedFramesAreDropped := by
  have fails {p : Port} {b : Bool} {s : State} (next : RxState) (hs : s.supplyLow = false)
      (hr : (s.port p).rx = .assembling) (hb : b = true) :
      ∃ t, plainEvent (failFrame p b next) s = .next t ∧ Dropped p next s t :=
    ⟨_, by rw [plainEvent_of _ hs, failFrame_of next hr hb], dropFrame_dropped p next s⟩
  refine ⟨fun p s hs hr => ⟨fun c hc => ?_, fun k n count hl => ?_, fun m hm => ?_, fun k f hl hc => ?_,
    fun i f ha hrest hl hc => ?_⟩, fun p m s hs hr => ?_⟩
  · exact fails .discarding hs hr (by simp [hc])
  · exact fails .discarding hs hr (by simp [hl])
  · exact fails .hunt hs hr (by simp [overGap, charBits]; omega)
  · exact fails .hunt hs hr (by simp [hl, hc])
  · exact ⟨_, exec_badCheck ha hs hrest hr hl (by simpa [Frame.checkGood] using hc), dropFrame_dropped p .hunt s⟩
  · show plainEvent (backToHunt p m) s = _
    rw [plainEvent_of _ hs]
    simp [backToHunt, hr, overGap, charBits]

/-- Settles O7: the loss of the lock, the receive state, and then the watch of the cab port. -/
theorem breakUnlocks : Obligations.BreakUnlocks := by
  intro p n s hs hn h22
  set u := loseLock p .discarding s with hu
  set v := u.setPort p { u.port p with rx := .discarding } with hv
  have hport : v.port p = { u.port p with rx := .discarding } := port_setPort _ _ _
  have hlose := loseLock_port p .discarding s
  have hcab : v.cab = (stopLock p s).cab := by rw [hv, setPort_cab, hu, loseLock_cab]
  refine ⟨watchBreak p (s.port p).lock v, ?_, ?_, ?_, ?_, fun ev => ?_, ?_, fun q hq => ?_, fun e he => ?_,
    fun hp => ?_, ?_⟩
  · show plainEvent (takeBreak p n) s = _
    rw [plainEvent_of _ hs]
    simp [takeBreak, isBreak, charBits, h22, hn, hv, hu]
  · rw [port_watchBreak, hport, hlose]; split <;> rfl
  · rw [port_watchBreak, hport]
  · rw [port_watchBreak, hport, hlose]; split <;> rfl
  · rw [present_watchBreak, hv, present_setPort, hu, loseLock_present]
  · rw [port_watchBreak, hport, hlose]; split <;> rfl
  · rw [port_watchBreak, hv, port_setPort_ne _ _ hq, hu, loseLock_port_ne _ _ hq]
  · subst he; exact hcab
  · subst hp
    have hnow : v.now = s.now := congrArg (·.now) (loseLock_rest .cab .discarding s)
    have hwatch : v.cab.watch = s.cab.watch := congrArg (·.watch) hcab
    have htime := breakTime_le (s.port .cab).lock
    by_cases harm : s.cab.watch = .armed
    · rw [watchBreak_armed _ (hwatch.trans harm), hcab]
      exact ⟨rfl, fun _ => ⟨rfl, _, rfl, by omega, by omega⟩, fun h => absurd harm h⟩
    · rw [watchBreak_unarmed _ (by rwa [hwatch]), hcab]
      exact ⟨rfl, fun h => absurd h harm, fun _ => ⟨rfl, rfl⟩⟩
  · have hrest := loseLock_rest p .discarding s
    rw [watchBreak_eq]
    generalize loseLock p .discarding s = u at hrest hu
    subst hu
    rcases p with (_ | _) | _ <;> exact hrest

/-- Settles O9: the loss of the lock at either expiry, and the change of presence at an end port. -/
theorem silentPortsLoseTheirLock : Obligations.SilentPortsLoseTheirLock := by
  refine ⟨fun s d hs hd => ?_, fun e s d hs hd => ?_⟩
  · refine ⟨lockExpired (s.reach d), ?_, loseLock_cab .cab .hunt (s.reach d), loseLock_port_hunt .cab (s.reach d),
      fun ev => loseLock_present .cab .hunt (s.reach d) ev, ?_⟩
    · show plainEvent (onExpiry s.cab.lockTimer lockExpired) s = _
      rw [plainEvent_of _ hs, hd, onExpiry_some]
    · rcases loseLock_cases .cab .hunt (s.reach d) with ⟨-, h⟩ | ⟨-, h⟩ <;> (rw [lockExpired, h]; rfl)
  · set u := (s.reach d).setEnd e { (s.reach d).endUnit e with silence := none } with hu
    set v := loseLock (.line e) .hunt u with hv
    have hport (q : Port) : u.port q = s.port q := by simp [hu]
    have hend (f : End) : (presenceChanged e v).alive f = u.alive f := by simp [State.alive, hv]
    have hc : v.consist = s.consist := by simp [hv, hu]
    refine ⟨presenceChanged e v, ?_, ?_, ?_, ?_, fun q hq => ?_, ?_, ?_, fun h => ?_, ?_, ?_⟩
    · show plainEvent (onExpiry (s.endUnit e).silence (silenceExpired e)) s = _
      rw [plainEvent_of _ hs, hd, onExpiry_some]; rfl
    · rw [hend, hu, alive_setEnd_self]; rfl
    · rw [hend, hu, alive_setEnd_other, alive_reach]
    · rw [port_presenceChanged, hv, loseLock_port_hunt, hport]
    · rw [port_presenceChanged, hv, loseLock_port_ne _ _ hq, hport]
    · rw [presenceChanged_present e v (by decide) (by decide), hv, loseLock_present, hport, hu, present_setEnd]
      simp
    · rw [presenceChanged_state, hc]
    · rw [presenceChanged_present e v (by decide) (by decide), hc, h]; simp
    · rw [presenceChanged_eq, hc]
    · rw [presenceChanged_eq]
      rcases loseLock_cases (.line e) .hunt u with ⟨-, h⟩ | ⟨-, h⟩ <;> rw [hv, h, hu] <;> cases e <;> rfl

end Sys2Proof.Machine
end

section
/-! The statements about sending: idle timers, the head of a queue, collisions. -/

namespace Sys2Proof.Machine

/-! ### Sending (R12, R13, R15, R16) -/

/-- A listening port starts to send once the line has been quiet for its time (R15, R16). -/
theorem startSending_eq {p : Port} {s : State} (markBits : Nat) (hl : (s.port p).listening = true) :
    startSending p markBits s = if 11 * quietTime (s.port p).attempt s.identity ≤ markBits then
      s.setPort p { s.port p with sending := s.toSend p } else s := by
  simp [startSending, hl, charBits]

/-- The head of a queue is what its port has to send, at the locked rate or else at its source rate (R4). -/
theorem toSend_head {p : Port} {s : State} {q : Queued} {qs : List Queued} (h : (s.port p).queue = q :: qs) :
    s.toSend p = some ⟨(s.port p).lock.getD q.rate, none⟩ := by
  simp [State.toSend, h]

/-- With an empty queue and the idle timer expired an end port has an IDLE to send (R12). -/
theorem toSend_idle {e : End} {s : State} (h : (s.port (.line e)).queue = []) (ht : (s.endUnit e).idleTimer = none) :
    s.toSend (.line e) = some ⟨(s.port (.line e)).lock.getD defaultRate, some (idleFrame e s)⟩ := by
  simp [State.toSend, h, ht]

/-- The head of the queue leaves its slot; one that no reset waits for brings nothing more (R12, R13, R187). -/
theorem popHead_eq {p : Port} {s : State} {q : Queued} {qs : List Queued} (h : (s.port p).queue = q :: qs)
    (hq : q.resetReply = false) : popHead p s =
      restartIdle p (s.setPort p { s.port p with queue := qs, attempt := 1, sending := none }) := by
  simp [popHead, h, hq]

theorem sent_head {p : Port} {s : State} {r : LineRate} (h : (s.port p).sending = some ⟨r, none⟩) :
    sent p s = popHead p s := by
  simp [sent, h]

theorem sent_idle {p : Port} {s : State} {r : LineRate} {f : Frame} (h : (s.port p).sending = some ⟨r, some f⟩) :
    sent p s = restartIdle p (s.setPort p { s.port p with sending := none }) := by
  simp [sent, h]

theorem collide_retried {p : Port} {s : State} {r : LineRate} (h : (s.port p).sending = some ⟨r, none⟩)
    (ha : (s.port p).attempt < 3) :
    collide p s = s.setPort p { s.port p with sending := none, attempt := (s.port p).attempt + 1 } := by
  simp [collide, h, ha]

theorem collide_discarded {p : Port} {s : State} {r : LineRate} (h : (s.port p).sending = some ⟨r, none⟩)
    (ha : 3 ≤ (s.port p).attempt) : collide p s = popHead p (lineError p s) := by
  simp [collide, h, show ¬ (s.port p).attempt < 3 by omega]

theorem collide_idle {p : Port} {s : State} {r : LineRate} {f : Frame} (h : (s.port p).sending = some ⟨r, some f⟩) :
    collide p s = restartIdle p (lineError p (s.setPort p { s.port p with sending := none })) := by
  simp [collide, h]

@[simp] theorem port_restartIdle (p q : Port) (s : State) : (restartIdle p s).port q = s.port q := by
  cases p <;> simp [restartIdle]

@[simp] theorem present_restartIdle (p : Port) (s : State) (ev : Event) :
    (restartIdle p s).present ev = s.present ev := by
  cases p <;> simp [restartIdle]

theorem restartIdle_idleTimer (e : End) (s : State) :
    ((restartIdle (.line e) s).endUnit e).idleTimer = some (s.now + 100) := by
  simp [restartIdle, State.start, idleInterval]

@[simp] theorem lineError_port (p : Port) (s : State) :
    (lineError p s).port p = { s.port p with lineErrors := min 255 ((s.port p).lineErrors + 1) } := by
  simp [lineError, satInc]

theorem lineError_port_ne {p q : Port} (s : State) (h : q ≠ p) : (lineError p s).port q = s.port q := by
  simp [lineError, port_setPort_ne s _ h]

theorem lineError_present (p : Port) (s : State) : (lineError p s).present .lineError = true := by
  simp [lineError]

@[simp] theorem lineError_now (p : Port) (s : State) : (lineError p s).now = s.now := by simp [lineError]

/-! ### The statements -/

/-- The bytes of a position are that position. -/
theorem byteOf_toNat {n : Nat} (h : n < 256) : (byteOf n).toNat = n := by
  simp [byteOf, BitVec.toNat_ofNat, Nat.mod_eq_of_lt h]

/-- Settles O11: the frame is the one that `idleFrame` builds as its transmission starts. -/
theorem idleFrameIsSent : Obligations.IdleFrameIsSent := by
  refine ⟨fun e s d hs hd => ?_, fun e s n hs hr hn hq ht ha hm hp => ?_⟩
  · show plainEvent (onExpiry (s.endUnit e).idleTimer (idleExpired e)) s = _
    rw [plainEvent_of _ hs, hd, onExpiry_some, idleExpired, endUnit_reach]; rfl
  · have hl : (s.port (.line e)).listening = true := (listening_iff _).2 ⟨hr, hn⟩
    refine ⟨_, ⟨(s.port (.line e)).lock.getD defaultRate, some (idleFrame e s)⟩, idleFrame e s, ?_, rfl, rfl, rfl, rfl,
      ?_, mkFrame_reflected .., ?_, rfl, ?_, rfl, mkFrame_checkGood ..⟩
    · show plainEvent (startSending (.line e) n) s = _
      rw [plainEvent_of _ hs, startSending_eq n hl, toSend_idle hq ht, ha, if_pos (by simpa [quietTime] using hm)]
    · rw [idleFrame, mkFrame_leadward]
      by_cases h : s.consist.leadEnd = some e <;> simp [h]
    · rw [idleFrame, mkFrame_hop]; rfl
    · exact byteOf_toNat (by omega)

/-- Settles O12: what starts to be sent is the head of the queue, and what has been sent leaves it. -/
theorem queuedFramesAreSentInOrder : Obligations.QueuedFramesAreSentInOrder := by
  refine ⟨fun p s q qs n hs hr hn hq => ?_, fun e s q qs r hs hq hn hr => ?_, fun s q qs r hs hq hn hr => ?_,
    fun e s r f hs hn => ?_⟩
  · show plainEvent (startSending p n) s = _
    rw [plainEvent_of _ hs, startSending_eq n ((listening_iff _).2 ⟨hr, hn⟩), toSend_head hq, quietTime, mul_ite]
  · show plainEvent (sent (.line e)) s = _
    rw [plainEvent_of _ hs, sent_head hn, popHead_eq hq hr, restartIdle, endUnit_setPort, State.start, setPort_now]
    rfl
  · show plainEvent (sent .cab) s = _
    rw [plainEvent_of _ hs, sent_head (p := .cab) hn, popHead_eq (p := .cab) hq hr]
    rfl
  · show plainEvent (sent (.line e)) s = _
    rw [plainEvent_of _ hs, sent_idle hn, restartIdle, endUnit_setPort, State.start, setPort_now]
    rfl

/-- Settles O13: a frame is kept for its second and third attempt, then discarded; an IDLE is not kept. -/
theorem collisionsAreRetriedTwice : Obligations.CollisionsAreRetriedTwice := by
  intro p s r hs
  have hexec : exec (.collision p) s = .next (collide p s) := plainEvent_of _ hs
  refine ⟨fun q qs hq hn ha => ?_, fun q qs hq hn ha hr => ⟨_, hexec, ?_⟩, fun f hn => ⟨_, hexec, ?_⟩⟩
  · rw [hexec, collide_retried hn ha]
  · rw [collide_discarded hn ha, popHead_eq (q := q) (qs := qs) (by simpa using hq) hr]
    refine ⟨by simp, by simp [lineError_present], fun e he => ?_, fun x hx => ?_⟩
    · subst he; rw [restartIdle_idleTimer]; simp
    · simp [port_setPort_ne _ _ hx, lineError_port_ne s hx]
  · rw [collide_idle hn]
    refine ⟨by simp, by simp [lineError_present], fun e he => ?_, fun x hx => ?_⟩
    · subst he; rw [restartIdle_idleTimer]; simp
    · simp [port_setPort_ne _ _ hx, lineError_port_ne _ hx]

end Sys2Proof.Machine
end

section
/-! The statements about frames that a node hears, and about a LINE_HOLD reset. -/

namespace Sys2Proof.Machine

/-! ### An IDLE, a frame at a node without a position, an ANSWER -/

/-- Settles O14: an IDLE heard goes no further than the port unit. -/
theorem idleKeepsSegmentAlive : Obligations.IdleKeepsSegmentAlive := by
  intro e f s h
  refine ⟨heard (.line e) s, ?_, ?_, heard_port _ s, fun q hq => heard_port_ne _ s hq, heard_state e s,
    by rw [heard_line_eq]⟩
  · rw [← receive_idle h rfl]; exact plainEvent_of _ h.1
  · rw [heard_endUnit]

/-- Without a position every frame other than a CALL and a HEAT SET is passed on as it came (R25). -/
theorem relayUnplaced_passOn {e : End} {f : Frame} (r : LineRate) (s : State) (hc : f.kind ≠ .call)
    (hh : f.kind ≠ .heatSet) : relayUnplaced e f r s = passOn e f r s := by
  unfold relayUnplaced; split <;> simp_all

/-- Settles O15: what is passed on is offered to the other end's queue. -/
theorem unplacedNodePassesFrames : Obligations.UnplacedNodePassesFrames := by
  intro i e f s ha h hp hi hc hh
  set u := heard (.line e) s with hu
  set q : Queued := ⟨f, s.rateAt (.line e), false⟩ with hq
  have hqueue : (u.port (.line e.other)).queue = (s.port (.line e.other)).queue := heard_queue _ _ _
  have hne : u.port (.line e.other) = s.port (.line e.other) := heard_port_ne _ s (by simp)
  refine ⟨offerQueued (.line e.other) q u, ?_, ?_, fun x hx => port_offerQueued_ne q hx, fun hr => ?_, fun hr => ?_⟩
  · have hrest := offerQueued_rest (.line e.other) q u
    refine exec_heard_quiet ha h hi (fun c => ?_) ((congrArg (·.doors) hrest).trans (heard_doors _ s))
      ((congrArg (·.heat) hrest).trans (heard_heat _ s)) ((congrArg (·.inputs) hrest).trans (heard_inputs _ s))
      ((congrArg (·.items) hrest).trans (heard_items _ s)) ((congrArg (·.scratch) hrest).trans (heard_scratch _ s))
    have hp' : (u.withScratch c).holdsPosition = false := (heard_holdsPosition _ s).trans hp
    rw [← offerQueued_withScratch, relay, if_neg (by rw [hp']; decide), relayUnplaced_passOn _ _ hc hh]
    rfl
  · exact congrArg (fun x : State => { x with events := (offerQueued (.line e.other) q u).events })
      (offerQueued_rest (.line e.other) q u)
  · have hroom : (u.port (.line e.other)).queue.length < 4 := by
      rw [hqueue]; unfold State.roomFor at hr; omega
    rw [offerQueued_room q hroom]
    exact ⟨port_setPort _ _ _, setPort_events _ _ _⟩
  · have hfull : ¬ (u.port (.line e.other)).queue.length < 4 := by
      rw [hqueue]; unfold State.roomFor at hr; omega
    rw [offerQueued_full q hfull]
    simp [hne, satInc]

/-- A frame for the lead at position 1, taken at its outward end, is consumed there (R33, R34). -/
theorem relay_consumed {e : End} {f : Frame} {r : LineRate} {s : State} (hp : s.holdsPosition = true)
    (h1 : s.consist.position = 1) (hrole : s.lead.role = true) (he : s.consist.leadEnd = some e.other)
    (ha : acceptedOnEnd f = true) (hk : f.kind ≠ .call) (hl : f.leadward = true) :
    relay (.line e) f r s = consumeLeadward f r s := by
  simp [relay, hp, relayPlaced, ha, hk, hl, he, takeLeadward, h1, hrole]

/-- What an ANSWER can do to the consist table (R49). -/
theorem takeAnswer_eq (l : List Byte) (s : State) :
    takeAnswer l s = { s with consist := { s.consist with table := (takeAnswer l s).consist.table } } := by
  unfold takeAnswer; dsimp only; split <;> rfl

theorem takeAnswer_table (l : List Byte) (s : State) : (takeAnswer l s).consist.table =
    if s.lead.state = .calling ∧ 2 ≤ (CoachRecord.ofBytes l).position.toNat ∧
        (CoachRecord.ofBytes l).position.toNat ≤ 32 ∧ (CoachRecord.ofBytes l).identity ≠ s.identity then
      storeRecord (CoachRecord.ofBytes l).position.toNat (CoachRecord.ofBytes l) s.consist.table
    else s.consist.table := by
  unfold takeAnswer maxPosition; dsimp only; split <;> rfl

/-- Settles O22: the ANSWER reaches the lead machine, which changes the consist table alone. -/
theorem answersAreStored : Obligations.AnswersAreStored := by
  intro e f s h hp h1 hrole he ha
  set u := heard (.line e) s with hu
  have hl : (frameOf f .answer []).leadward = true := by
    simp only [acceptedOnEnd, frameOf, Bool.and_eq_true] at ha
    exact ha.1.1
  have hexec : exec (.answer (.line e) f) s = .next (takeAnswer f.body u) := by
    have hrest := takeAnswer_eq f.body u
    refine exec_heard_quiet rfl h (by simp [frameOf]) (fun c => ?_) ((congrArg (·.doors) hrest).trans (heard_doors _ s))
      ((congrArg (·.heat) hrest).trans (heard_heat _ s)) ((congrArg (·.inputs) hrest).trans (heard_inputs _ s))
      ((congrArg (·.items) hrest).trans (heard_items _ s)) ((congrArg (·.scratch) hrest).trans (heard_scratch _ s))
    refine (relay_consumed (s := u.withScratch c) ((heard_holdsPosition _ s).trans hp) ((heard_position _ s).trans h1)
      ((congrArg Lead.role (heard_lead _ s)).trans hrole) ((heard_leadEnd _ s).trans he) ha
      (by simp [frameOf]) hl).trans ?_
    exact takeAnswer_withScratch u c f.body
  refine ⟨takeAnswer f.body u, hexec, ?_, ?_⟩
  · rw [takeAnswer_eq, ← heard_table (.line e) s]
  · have ht := takeAnswer_table f.body u
    rw [heard_lead, heard_identity, heard_table] at ht
    dsimp only
    split
    · next hc =>
      rw [if_pos hc] at ht
      intro p hp1 hp2
      rw [ht, recordAt_storeRecord _ _ (by omega) hc.2.2.1 hp1 hp2]
    · next hc => rw [ht, if_neg hc]

end Sys2Proof.Machine
end

section
/-! Resets: what the start of one leaves and what runs from its end (R189), and the LINE_HOLD reset. -/

namespace Sys2Proof.Machine

/-! ### The inputs over a table update -/

/-- The place of an input in the list of all inputs is its number (file 11, items 81 and 82). -/
theorem allInputs_getElem? (i : Input) : allInputs[inputIndex i]? = some i := by
  rcases i with (_ | _) | _ | _ | (_ | _) | ⟨_ | _, n⟩ | _
  case leaf.a | leaf.b => fin_cases n <;> rfl
  all_goals rfl

/-- The inputs built one by one for every input. -/
theorem input_ofList {s : State} {f : Input → InputLine} (h : s.inputs.list = allInputs.map f) (i : Input) :
    s.input i = f i := by
  simp [State.input, Tab.getD, h, allInputs_getElem?]

/-- Every input has its place in the state's list. -/
theorem inputs_getElem? (s : State) (i : Input) : s.inputs.list[inputIndex i]? = some (s.input i) := by
  have hlen : inputIndex i < s.inputs.list.length := by
    rw [s.inputs.size]
    exact (List.getElem?_eq_some_iff.1 (allInputs_getElem? i)).1
  simp [State.input, Tab.getD, List.getElem?_eq_getElem hlen]

/-- The inputs with one function applied to all. -/
theorem input_map {s t : State} {f : InputLine → InputLine} (h : t.inputs = s.inputs.map f) (i : Input) :
    t.input i = f (s.input i) := by
  have hi := inputs_getElem? t i
  rw [h] at hi
  simp only [Tab.map, List.getElem?_map, inputs_getElem? s i, Option.map_some, Option.some.injEq] at hi
  exact hi.symm

/-! ### The start and the end of a reset (R189) -/

/-- The start of a reset raises RESET, and STORE_INVALID where no image was good (R188, R189). -/
theorem resetBegin_present (cause : ResetCause) (s : State) (ev : Event) :
    (resetBegin cause s).present ev = (ev == .reset || (ev == .storeInvalid && (goodImage s).isNone)) := by
  unfold resetBegin
  rw [present_raiseIf, present_raise_iff]
  have h0 : State.present { s with events := 0 } ev = false := by simp [State.present]
  change (State.present { s with events := 0 } ev || ev == .reset || ((goodImage s).isNone && ev == .storeInvalid)) = _
  rw [h0, Bool.false_or, Bool.and_comm]

/-- The start of a reset leaves every block as its table gives it (R189). -/
theorem resetBegin_afterReset (cause : ResetCause) (s : State) : AfterReset cause s (resetBegin cause s) := by
  -- the ports, the ends and the inputs are read through their views; every other clause is a field of the state
  refine ⟨?_, fun p => ?_, fun e => ?_, ?_, ?_, ?_, ?_, ?_, ?_, ?_, ?_, ?_, ?_, fun i => ?_, resetBegin_present cause s,
    ?_, ?_, ?_⟩
  case refine_2 => rw [resetBegin, port_raiseIf, port_raise]; rcases p with (_ | _) | _ <;> rfl
  case refine_3 => rw [resetBegin, State.alive, endUnit_raiseIf, endUnit_raise]; cases e <;> rfl
  case refine_14 =>
    have h : (resetBegin cause s).inputs = s.inputs.map (fun l => ⟨l.raw, none, none⟩) := by
      rw [resetBegin, raiseIf_inputs]; rfl
    rw [input_map h]; exact ⟨rfl, rfl⟩
  all_goals
    unfold resetBegin
    simp only [raiseIf_items, raiseIf_orders, raiseIf_heat, raiseIf_cab, raiseIf_directionErrors, raiseIf_cabRefusals,
      raiseIf_dispatch, raiseIf_consist, raiseIf_lead, raiseIf_survey, raiseIf_seq, raiseIf_doors, raiseIf_mgmt,
      raiseIf_pending, raiseIf_identity]
  case refine_1 => exact ⟨rfl, rfl, rfl⟩
  all_goals rfl

/-- The stability timer of every input runs from the end of a reset (R173). -/
theorem resetEnd_input (s : State) (i : Input) :
    (resetEnd s).input i = { s.input i with timer := s.start (s.itemN (Item.filter i)) } :=
  input_ofList (s := resetEnd s) (f := fun i => { s.input i with timer := s.start (s.itemN (Item.filter i)) }) rfl i

/-- The end of a reset starts timers, and leaves what the start has set. -/
theorem afterReset_resetEnd {cause : ResetCause} {s t : State} (h : AfterReset cause s t) :
    AfterReset cause s (resetEnd t) := by
  obtain ⟨hconf, hport, halive, hcab, hdir, hcabr, hdisp, hcon, hlead, hsur, hseq, hdoors, hheat, hin, hrest⟩ := h
  refine ⟨hconf, hport, fun e => ?_, hcab, hdir, hcabr, hdisp, ?_, hlead, hsur, hseq, hdoors, ?_, fun i => ?_, hrest⟩
  · rw [← halive e]; cases e <;> rfl
  · unfold resetEnd; dsimp only; rw [hcon]
  · unfold resetEnd; dsimp only; rw [hheat]
  · rw [resetEnd_input]; exact hin i

/-- The timers that run from the end of a reset (R12, R74, R140, R148, R152, R173). -/
theorem resetEnd_timersFromEnd (s : State) : TimersFromEnd (resetEnd s) := by
  refine ⟨fun e => by cases e <;> rfl, rfl, rfl, fun i => ?_, rfl, fun i => by rw [resetEnd_input]; rfl⟩
  show (Tab.fill 4 (s.startOrExpired (s.itemN Item.minOff))).getD i none = _
  fin_cases i <;> rfl

/-- Settles O8: the watch armed at mark, and the reset that begins and ends as the line-hold time runs out. -/
theorem lineHoldWatchResets : Obligations.LineHoldWatchResets := by
  refine ⟨fun s hs => plainEvent_of armWatch hs, fun s d hs hw hd => ?_⟩
  refine ⟨resetNode .lineHold (s.reach d), ?_, ?_, rfl, ?_, resetEnd_timersFromEnd _⟩
  · show plainEvent lineHold s = _
    rw [plainEvent_of _ hs, lineHold, if_pos hw, hd, onExpiry_some]
  · show (resetBegin .lineHold (s.reach d)).now = _
    rw [resetBegin, raiseIf_now]; rfl
  · exact afterReset_resetEnd (resetBegin_afterReset .lineHold (s.reach d))

end Sys2Proof.Machine
end

section
/-! A CALL at a node without the lead role: where it places the node, and what it sends (R61, R62, R66). -/

namespace Sys2Proof.Machine

/-! ### Frames sent on, and the node's own record -/

/-- The hop that a frame sent on carries (R28). -/
theorem withHop_hop (f : Frame) (n : Nat) : (f.withHop n).hop = min 63 n := by
  have h := (flagsByte_fields f.leadward f.reflected ⟨min 63 n, by omega⟩).2.2
  rwa [← flagsByte_min] at h

theorem hop_lt (f : Frame) : f.hop < 64 := Nat.mod_lt _ (by decide)

/-- The orientation bit of a record's class and flags, between the class and the two flags above it (R18). -/
theorem classFlags_orientation (a : Nat) (b c d : Bool) :
    (byteOf (a % 16 + 16 * bit b + 32 * bit c + 64 * bit d)).getLsbD 4 = b := by
  have hn : (a % 16 + 16 * bit b + 32 * bit c + 64 * bit d) / 16 % 2 = bit b := by unfold bit; split <;> omega
  simp only [byteOf, BitVec.getLsbD_ofNat, Nat.testBit_eq_decide_div_mod_eq, Nat.reducePow, hn]
  cases b <;> rfl

theorem ownRecord_e2Leadward (n : Nat) (e : End) (s : State) : (ownRecord n e s).e2Leadward = decide (e = .e2) := by
  rw [CoachRecord.e2Leadward, ownRecord, classFlags_orientation]
  cases e <;> rfl

/-! ### A node placed by a CALL (R61) -/

/-- The node placed at position `n` with end `e` leadward and its PLACING timer running. -/
def placedBy (e : End) (n : Nat) (s : State) : State := startPlacing (enterPlacing n e none s)

/-- The ANSWER of a node so placed. -/
def answerOf (e : End) (n : Nat) (s : State) : Frame :=
  mkFrame .answer true false 0 1 (byteOf n) (ownRecord n e s).bytes

/-- The TAIL of a node so placed that has no neighbour to call on (R62). -/
def tailOf (n : Nat) : Frame := mkFrame .tail true false 0 1 (byteOf n) (TailData.payload ⟨byteOf n, false, false, 0⟩)

/-- It carries no flag and no identity (R19). -/
theorem tailOf_payload (n : Nat) : (tailOf n).payload = [byteOf n, 0, 0, 0, 0, 0] := by
  have h : byteOf (bit false + 2 * bit false) = 0 ∧ CoachRecord.identityBytes 0 = [0, 0, 0, 0] := by decide
  simp only [tailOf, mkFrame_payload, TailData.payload, h]
  rfl

@[simp] theorem port_placedBy (e : End) (n : Nat) (s : State) (p : Port) : (placedBy e n s).port p = s.port p := by
  rcases p with (_ | _) | _ <;> rfl

@[simp] theorem alive_placedBy (e : End) (n : Nat) (s : State) (x : End) : (placedBy e n s).alive x = s.alive x := by
  cases x <;> rfl

/-- A CALL at hop 1..31: the node placed, the ANSWER offered back, and then the CALL on or a TAIL (R61, R62). -/
theorem placeByCall_eq {e : End} {f : Frame} (r : LineRate) (s : State) (h1 : 1 ≤ f.hop) (h31 : f.hop ≤ 31) :
    placeByCall e f r s =
      if (offer (.line e) (answerOf e (f.hop + 1) s) defaultRate (placedBy e (f.hop + 1) s)).alive e.other = true then
        offer (.line e.other) (f.withHop (f.hop + 1)) r
          (offer (.line e) (answerOf e (f.hop + 1) s) defaultRate (placedBy e (f.hop + 1) s))
      else sendTail e ⟨byteOf (f.hop + 1), false, false, 0⟩
          (offer (.line e) (answerOf e (f.hop + 1) s) defaultRate (placedBy e (f.hop + 1) s)) := by
  unfold placeByCall
  rw [if_neg (by omega), if_neg (by unfold maxPosition; omega)]
  rfl

/-- One with hop 0 is disregarded (R61). -/
theorem placeByCall_hop0 {e : End} {f : Frame} (r : LineRate) (s : State) (h : f.hop = 0) :
    placeByCall e f r s = s := by
  simp [placeByCall, h]

/-- One with hop 32 or more finds no position left (R66). -/
theorem placeByCall_overflow {e : End} {f : Frame} (r : LineRate) (s : State) (h : 32 ≤ f.hop) :
    placeByCall e f r s = sendTail e ⟨32, true, false, 0⟩ (returnToUnplaced s) := by
  unfold placeByCall
  rw [if_neg (by omega), if_pos (by unfold maxPosition; omega)]
  rfl

@[simp] theorem placeByCall_withScratch (e : End) (f : Frame) (r : LineRate) (s : State) (c : Scratch) :
    placeByCall e f r (s.withScratch c) = (placeByCall e f r s).withScratch c := by
  have hf := hop_lt f
  rcases Nat.eq_zero_or_pos f.hop with h0 | h1
  · rw [placeByCall_hop0 r _ h0, placeByCall_hop0 r _ h0]
  · by_cases h32 : 32 ≤ f.hop
    · rw [placeByCall_overflow r _ h32, placeByCall_overflow r _ h32, returnToUnplaced_withScratch,
        sendTail_withScratch]
    · have hp : placedBy e (f.hop + 1) (s.withScratch c) = (placedBy e (f.hop + 1) s).withScratch c := rfl
      have ha : answerOf e (f.hop + 1) (s.withScratch c) = answerOf e (f.hop + 1) s := rfl
      rw [placeByCall_eq r _ h1 (by omega), placeByCall_eq r _ h1 (by omega), hp, ha, offer_withScratch,
        alive_withScratch, offer_withScratch, sendTail_withScratch]
      exact withScratch_ite rfl rfl

/-- The same with room for what it brings: the frames join the queues (R13). -/
theorem placeByCall_placed {e : End} {f : Frame} {r : LineRate} {s : State} (h1 : 1 ≤ f.hop) (h31 : f.hop ≤ 31)
    (hroom : s.roomFor (.line e) 2) (hroom' : s.roomFor (.line e.other) 1) :
    placeByCall e f r s = if s.alive e.other = true then
      ((placedBy e (f.hop + 1) s).setPort (.line e) { s.port (.line e) with
        queue := (s.port (.line e)).queue ++ [queued (answerOf e (f.hop + 1) s)] }).setPort (.line e.other)
          { s.port (.line e.other) with
            queue := (s.port (.line e.other)).queue ++ [⟨f.withHop (f.hop + 1), r, false⟩] }
    else (placedBy e (f.hop + 1) s).setPort (.line e) { s.port (.line e) with
        queue := (s.port (.line e)).queue ++ [queued (answerOf e (f.hop + 1) s), queued (tailOf (f.hop + 1))] } := by
  unfold State.roomFor at hroom hroom'
  set v := placedBy e (f.hop + 1) s with hv
  have hanswer : offer (.line e) (answerOf e (f.hop + 1) s) defaultRate v = v.setPort (.line e) { s.port (.line e) with
      queue := (s.port (.line e)).queue ++ [queued (answerOf e (f.hop + 1) s)] } := by
    rw [offer, offerQueued_room _ (by rw [hv, port_placedBy]; omega), hv, port_placedBy]; rfl
  have hother (u : PortUnit) : (v.setPort (.line e) u).port (.line e.other) = s.port (.line e.other) := by
    rw [port_setPort_ne _ _ (by simp), hv, port_placedBy]
  rw [placeByCall_eq r s h1 h31, ← hv, hanswer, alive_setPort, hv, alive_placedBy, ← hv]
  split
  · rw [offer, offerQueued_room _ (by rw [hother]; omega), hother]
  · rw [sendTail, offer, offerQueued_room _ (by rw [port_setPort]; simp; omega), port_setPort, setPort_setPort,
      List.append_assoc]
    have hsrc (u : PortUnit) : (v.setPort (.line e) u).sourceByte = byteOf (f.hop + 1) := by
      rw [State.sourceByte, setPort_consist, hv]; rfl
    rw [hsrc]; rfl

/-- But for the queues of the end ports, a CALL so taken leaves the node as it has been placed. -/
theorem placeByCall_changes {e : End} {f : Frame} {r : LineRate} {s : State} (h1 : 1 ≤ f.hop) (h31 : f.hop ≤ 31)
    (hroom : s.roomFor (.line e) 2) (hroom' : s.roomFor (.line e.other) 1) :
    placeByCall e f r s = { placedBy e (f.hop + 1) s with
      pu1 := (placeByCall e f r s).pu1, pu2 := (placeByCall e f r s).pu2 } := by
  rw [placeByCall_placed h1 h31 hroom hroom']
  split <;> cases e <;> rfl

/-! ### The command -/

/-- A CALL that its port accepts reaches the roll call of a node wherever it stands (R25, R26). -/
theorem relay_call {e : End} {f : Frame} {r : LineRate} {s : State} (hk : f.kind = .call)
    (ha : acceptedOnEnd f = true) (hrole : s.lead.role = false) : relay (.line e) f r s = placeByCall e f r s := by
  simp [relay, relayPlaced, relayUnplaced, hk, ha, takeCall, hrole]

/-- A CALL heard at a node without the lead role, with nothing left to settle. -/
theorem exec_call {e : End} {f : LineFrame} {s t : State} (h : Heard (.line e) (frameOf f .call []) s)
    (ha : acceptedOnEnd (frameOf f .call []) = true) (hrole : s.lead.role = false)
    (ht : placeByCall e (frameOf f .call []) (s.rateAt (.line e)) (heard (.line e) s) = t) (hd : t.doors = s.doors)
    (hh : { t.heat with cycleRec := s.heat.cycleRec, grant := s.heat.grant } = s.heat) (hi : t.inputs = s.inputs)
    (hm : t.items = s.items) (hs : t.scratch = s.scratch) : exec (.call (.line e) f) s = .next t := by
  refine exec_heard_unmoved rfl h (by simp [frameOf]) (fun c => ?_) hd hh hi hm hs
  rw [relay_call (s := (heard (.line e) s).withScratch c) rfl ha ((congrArg Lead.role (heard_lead _ s)).trans hrole),
    placeByCall_withScratch, ht]

/-- Sending a TAIL with room for it (R62). -/
theorem sendTail_room {e : End} (d : TailData) {s : State} (h : (s.port (.line e)).queue.length < 4) :
    sendTail e d s = s.setPort (.line e) { s.port (.line e) with
      queue := (s.port (.line e)).queue ++ [queued (mkFrame .tail true false 0 1 s.sourceByte d.payload)] } :=
  offerQueued_room _ h

@[simp] theorem port_returnToUnplaced (s : State) (p : Port) : (returnToUnplaced s).port p = s.port p := by
  rcases returnToUnplaced_cases s with ⟨-, h⟩ | ⟨-, h⟩ <;> rw [h]
  rcases p with (_ | _) | _ <;> rfl

/-- A return to UNPLACED changes the consist unit, the cycle record and the event set alone (R44). -/
theorem returnToUnplaced_eq (s : State) : returnToUnplaced s = { s with
    consist := (returnToUnplaced s).consist
    heat := { s.heat with cycleRec := (returnToUnplaced s).heat.cycleRec, grant := (returnToUnplaced s).heat.grant }
    events := (returnToUnplaced s).events } := by
  rcases returnToUnplaced_cases s with ⟨-, h⟩ | ⟨-, h⟩ <;> rw [h]
  rfl

/-- A CALL at hop 1..31 (R61, R62). -/
theorem call_places {e : End} {f : LineFrame} {s : State} {h : Nat} (hh : Heard (.line e) (frameOf f .call []) s)
    (ha : acceptedOnEnd (frameOf f .call []) = true) (hrole : s.lead.role = false)
    (hhop : (frameOf f .call []).hop = h) (h1 : 1 ≤ h) (h31 : h ≤ 31) (hroom : s.roomFor (.line e) 2)
    (hroom' : s.roomFor (.line e.other) 1) :
    ∃ t, exec (.call (.line e) f) s = .next t ∧
      t = { placedBy e (h + 1) (heard (.line e) s) with pu1 := t.pu1, pu2 := t.pu2 } ∧
      (s.alive e.other = true →
        Queues (.line e) [queued (answerOf e (h + 1) (heard (.line e) s))] (heard (.line e) s) t ∧
        Queues (.line e.other) [⟨(frameOf f .call []).withHop (h + 1), s.rateAt (.line e), false⟩]
          (heard (.line e) s) t) ∧
      (s.alive e.other = false → t.port (.line e.other) = s.port (.line e.other) ∧
        Queues (.line e) [queued (answerOf e (h + 1) (heard (.line e) s)), queued (tailOf (h + 1))]
          (heard (.line e) s) t) := by
  subst hhop
  have hr (n : Nat) (p : Port) (h : s.roomFor p n) : (heard (.line e) s).roomFor p n := by
    rwa [State.roomFor, heard_queue]
  have hq := placeByCall_placed (r := s.rateAt (.line e)) h1 h31 (hr 2 _ hroom) (hr 1 _ hroom')
  have hc := placeByCall_changes (r := s.rateAt (.line e)) h1 h31 (hr 2 _ hroom) (hr 1 _ hroom')
  rw [heard_alive_other] at hq
  refine ⟨_, exec_call hh ha hrole rfl ?_ ?_ ?_ ?_ ?_, hc, fun hn => ?_, fun hn => ?_⟩
  · exact (congrArg (·.doors) hc).trans (heard_doors _ s)
  · rw [congrArg (·.heat) hc, ← heard_heat (.line e) s]; rfl
  · exact (congrArg (·.inputs) hc).trans (heard_inputs _ s)
  · exact (congrArg (·.items) hc).trans (heard_items _ s)
  · exact (congrArg (·.scratch) hc).trans (heard_scratch _ s)
  · rw [hq, if_pos hn]
    exact ⟨by rw [Queues, port_setPort_ne _ _ (by simp), port_setPort], port_setPort _ _ _⟩
  · rw [hq, if_neg (by simp [hn])]
    refine ⟨?_, port_setPort _ _ _⟩
    rw [port_setPort_ne _ _ (by simp), port_placedBy, heard_port_ne _ _ (by simp)]

/-- The TAIL with the overflow flag alone, from a node as it stands (R66). -/
def overflowTail (s : State) : Frame :=
  mkFrame .tail true false 0 1 s.sourceByte (TailData.payload ⟨32, true, false, 0⟩)

/-- A CALL with hop 32 or more: the node is UNPLACED, and the overflow TAIL joins the queue of the arrival end (R66). -/
theorem call_overflows {e : End} {f : LineFrame} {s : State} (hh : Heard (.line e) (frameOf f .call []) s)
    (ha : acceptedOnEnd (frameOf f .call []) = true) (hrole : s.lead.role = false)
    (hhop : 32 ≤ (frameOf f .call []).hop) (hroom : s.roomFor (.line e) 1) :
    exec (.call (.line e) f) s = .next ((returnToUnplaced (heard (.line e) s)).setPort (.line e)
      { (heard (.line e) s).port (.line e) with queue := ((heard (.line e) s).port (.line e)).queue ++
          [queued (overflowTail (returnToUnplaced (heard (.line e) s)))] }) := by
  have hw := returnToUnplaced_eq (heard (.line e) s)
  have hroomw : ((returnToUnplaced (heard (.line e) s)).port (.line e)).queue.length < 4 := by
    unfold State.roomFor at hroom
    rw [port_returnToUnplaced, heard_queue]; omega
  have ht := (placeByCall_overflow (e := e) (s.rateAt (.line e)) (heard (.line e) s) hhop).trans
    (sendTail_room _ hroomw)
  rw [port_returnToUnplaced] at ht
  refine exec_call hh ha hrole ht ?_ ?_ ?_ ?_ ?_
  · rw [setPort_doors]; exact (congrArg (·.doors) hw).trans (heard_doors _ s)
  · rw [setPort_heat, hw, ← heard_heat (.line e) s]
  · rw [setPort_inputs]; exact (congrArg (·.inputs) hw).trans (heard_inputs _ s)
  · rw [setPort_items]; exact (congrArg (·.items) hw).trans (heard_items _ s)
  · rw [setPort_scratch]; exact (congrArg (·.scratch) hw).trans (heard_scratch _ s)

/-- Settles O20: a CALL by its hop, 1..31, 0, and 32 or more. -/
theorem callPlacesNode : Obligations.CallPlacesNode := by
  refine ⟨fun e f s h hh ha hrole hhop h1 h31 hroom hroom' => ?_, fun e f s hh ha hrole hhop => ?_,
    fun e f s hh ha hrole hhop hroom => ?_⟩
  · obtain ⟨t, hexec, ht, hon, hend⟩ := call_places hh ha hrole hhop h1 h31 hroom hroom'
    set u := heard (.line e) s with hu
    have hc : t.consist = (placedBy e (h + 1) u).consist := congrArg (·.consist) ht
    have hheat : t.heat = { s.heat with cycleRec := none, grant := 0 } := by
      rw [congrArg (·.heat) ht, ← heard_heat (.line e) s]; rfl
    refine ⟨t, answerOf e (h + 1) u, ownRecord (h + 1) e u, hexec, by rw [hc]; rfl, by rw [hc]; rfl, by rw [hc]; rfl,
      fun p hp1 hp2 => ?_, heard_identity _ s, byteOf_toNat (by omega), ownRecord_e2Leadward _ _ _, by rw [hc]; rfl,
      by rw [hc]; rfl, by rw [hc]; rfl, ?_, by rw [hheat], by rw [hheat], rfl, rfl, mkFrame_leadward .., rfl,
      byteOf_toNat (by omega), mkFrame_checkGood .., fun hn => ⟨(hon hn).1, _, (hon hn).2, rfl, ?_, rfl,
      recheck_checkGood _⟩, fun hn => ⟨(hend hn).1, _, (hend hn).2, rfl, tailOf_payload _, mkFrame_checkGood ..⟩, ?_⟩
    · rw [hc]; exact recordAt_tableWith _ (by omega) hp1 hp2
    · rw [hc]
      show some (u.now + 3 * u.itemN Item.callWindow) = _
      simp [hu, State.itemN, State.item]
    · rw [withHop_hop]; omega
    · rw [hheat, ht, hu, heard_line_eq]; rfl
  · refine exec_call hh ha hrole (placeByCall_hop0 _ _ hhop) ?_ ?_ ?_ ?_ ?_ <;> simp
  · have hexec := call_overflows hh ha hrole hhop hroom
    set u := heard (.line e) s with hu
    have hw := returnToUnplaced_eq u
    have hstate : u.consist.state = if s.alive e = false ∧ s.consist.state = .placed then .stale else s.consist.state :=
      heard_state e s
    refine ⟨_, overflowTail (returnToUnplaced u), hexec, fun h0 => ?_, fun h0 => ?_, port_setPort _ _ _, fun q hq => ?_,
      rfl, rfl, mkFrame_leadward .., mkFrame_hop .., rfl, ?_, mkFrame_checkGood .., ?_, ?_, ?_⟩
    · have hu0 : u.consist.state = .unplaced := by simp [hstate, h0]
      rcases returnToUnplaced_cases u with ⟨-, h⟩ | ⟨h, -⟩
      · rw [setPort_consist, setPort_events, h]; exact ⟨rfl, rfl⟩
      · exact absurd hu0 h
    · have hu0 : u.consist.state ≠ .unplaced := by rw [hstate]; split <;> simp [h0]
      rcases returnToUnplaced_cases u with ⟨h, -⟩ | ⟨-, h⟩
      · exact absurd h hu0
      · rw [setPort_consist, present_setPort, h, present_raise]
        exact ⟨rfl, rfl, rfl, rfl, rfl, rfl, rfl, rfl⟩
    · rw [port_setPort_ne _ _ hq, port_returnToUnplaced, hu, heard_port_ne _ s hq]
    · rw [setPort_consist]; rfl
    · rw [setPort_doors]; exact (congrArg (·.doors) hw).trans (heard_doors _ s)
    · rw [setPort_items]; exact (congrArg (·.items) hw).trans (heard_items _ s)
    · rw [setPort_heat]; exact (congrArg (·.heat.target) hw).trans (congrArg Heat.target (heard_heat _ s))

end Sys2Proof.Machine
end

section
/-! Relaying: a frame that joins a queue, what the end of an event reads, a frame heard at an end that is alive, and the
relay engine at a node with a position. -/

namespace Sys2Proof.Machine

@[simp] theorem End.other_other (e : End) : e.other.other = e := by cases e <;> rfl

/-! ### A frame joins a queue (R13) -/

/-- The state with `q` joined behind the queue of port `p`. -/
def State.enqueue (s : State) (p : Port) (q : Queued) : State :=
  s.setPort p { s.port p with queue := (s.port p).queue ++ [q] }

theorem offer_room {s : State} {p : Port} (f : Frame) (r : LineRate) (h : s.roomFor p 1) :
    offer p f r s = s.enqueue p ⟨f, r, false⟩ :=
  offerQueued_room _ (by unfold State.roomFor at h; omega)

theorem offerEnd_room {s : State} {e : End} (f : Frame) (r : LineRate) (h : s.roomFor (.line e) 1) :
    offerEnd (some e) f r s = s.enqueue (.line e) ⟨f, r, false⟩ := offer_room f r h

section enqueue

variable (s : State) (p : Port) (q : Queued)

theorem queues_enqueue : Queues p [q] s (s.enqueue p q) := port_setPort _ _ _

theorem port_enqueue_ne {x : Port} (h : x ≠ p) : (s.enqueue p q).port x = s.port x := port_setPort_ne _ _ h

theorem onlyPorts_enqueue : OnlyPorts s (s.enqueue p q) := by rcases p with (_ | _) | _ <;> rfl

@[simp] theorem enqueue_withScratch (c : Scratch) : (s.withScratch c).enqueue p q = (s.enqueue p q).withScratch c := by
  simp [State.enqueue]

@[simp] theorem enqueue_now : (s.enqueue p q).now = s.now := setPort_now _ _ _
@[simp] theorem enqueue_consist : (s.enqueue p q).consist = s.consist := setPort_consist _ _ _
@[simp] theorem enqueue_lead : (s.enqueue p q).lead = s.lead := setPort_lead _ _ _
@[simp] theorem enqueue_survey : (s.enqueue p q).survey = s.survey := setPort_survey _ _ _
@[simp] theorem enqueue_seq : (s.enqueue p q).seq = s.seq := setPort_seq _ _ _
@[simp] theorem enqueue_doors : (s.enqueue p q).doors = s.doors := setPort_doors _ _ _
@[simp] theorem enqueue_heat : (s.enqueue p q).heat = s.heat := setPort_heat _ _ _
@[simp] theorem enqueue_inputs : (s.enqueue p q).inputs = s.inputs := setPort_inputs _ _ _
@[simp] theorem enqueue_events : (s.enqueue p q).events = s.events := setPort_events _ _ _
@[simp] theorem enqueue_items : (s.enqueue p q).items = s.items := setPort_items _ _ _
@[simp] theorem enqueue_scratch : (s.enqueue p q).scratch = s.scratch := setPort_scratch _ _ _

end enqueue

/-! ### What the end of an event reads (R59, R124, R146) -/

/-- `t` has the doors, the heating unit, the inputs, the items and the scratch fields of `s`: all that the end of an event
goes by. -/
def KeepsUnits (s t : State) : Prop :=
  t.doors = s.doors ∧ t.heat = s.heat ∧ t.inputs = s.inputs ∧ t.items = s.items ∧ t.scratch = s.scratch

theorem KeepsUnits.trans {s t u : State} (h : KeepsUnits s t) (h' : KeepsUnits t u) : KeepsUnits s u := by
  obtain ⟨h1, h2, h3, h4, h5⟩ := h
  obtain ⟨h1', h2', h3', h4', h5'⟩ := h'
  exact ⟨h1'.trans h1, h2'.trans h2, h3'.trans h3, h4'.trans h4, h5'.trans h5⟩

theorem heard_keepsUnits (p : Port) (s : State) : KeepsUnits s (heard p s) :=
  ⟨heard_doors p s, heard_heat p s, heard_inputs p s, heard_items p s, heard_scratch p s⟩

theorem enqueue_keepsUnits (p : Port) (q : Queued) (s : State) : KeepsUnits s (s.enqueue p q) :=
  ⟨enqueue_doors s p q, enqueue_heat s p q, enqueue_inputs s p q, enqueue_items s p q, enqueue_scratch s p q⟩

/-- A frame that the relay engine takes without touching those units: the command gives what the relay engine gave. -/
theorem exec_heard_keeping {i : Instr} {p : Port} {f : Frame} {s t : State} (ha : i.arriving = some (p, f))
    (h : Heard p f s) (hk : f.kind ≠ .idle)
    (hrelay : ∀ c, relay p f (s.rateAt p) ((heard p s).withScratch c) = t.withScratch c)
    (ht : KeepsUnits (heard p s) t) : exec i s = .next t := by
  obtain ⟨hd, hh, hi, hm, hs⟩ := (heard_keepsUnits p s).trans ht
  exact exec_heard_quiet ha h hk hrelay hd hh hi hm hs

/-! ### A frame heard with its end alive -/

section alive

variable {e : End} {s : State}

/-- A frame heard at an end that is alive changes nothing but the port and the end's silence timer (R7, R11). -/
theorem heard_of_alive (h : s.alive e = true) :
    { heard (.line e) s with pu1 := s.pu1, pu2 := s.pu2, end1 := s.end1, end2 := s.end2 } = s := by
  unfold heard passedChecks; dsimp only
  rcases restartSilence_cases e (s.setPort (.line e) { s.port (.line e) with rx := .hunt, buffer := [] }) with
    ⟨-, h'⟩ | ⟨h', -⟩
  · rw [h']; cases e <;> rfl
  · rw [alive_setPort, h] at h'; cases h'

theorem heard_consist_of_alive (h : s.alive e = true) : (heard (.line e) s).consist = s.consist :=
  congrArg (·.consist) (heard_of_alive h)

theorem heard_events_of_alive (h : s.alive e = true) : (heard (.line e) s).events = s.events :=
  congrArg (·.events) (heard_of_alive h)

end alive

@[simp] theorem heard_cab_consist (s : State) : (heard .cab s).consist = s.consist := by
  unfold heard passedChecks; dsimp only; split <;> rfl

@[simp] theorem heard_cab_alive (s : State) (e : End) : (heard .cab s).alive e = s.alive e := by
  unfold heard passedChecks; dsimp only; split <;> cases e <;> rfl

@[simp] theorem heard_roomFor (p q : Port) (s : State) (n : Nat) : (heard p s).roomFor q n ↔ s.roomFor q n := by
  unfold State.roomFor; rw [heard_queue]

/-! ### The ends of a node with a position (R23, R30) -/

theorem outwardEnd_of {s : State} {e : End} (he : s.consist.leadEnd = some e) : s.outwardEnd = some e.other := by
  simp [State.outwardEnd, he]

theorem endNode_of {s : State} {e : End} (hp : s.holdsPosition = true) (he : s.consist.leadEnd = some e) :
    s.endNode = !s.alive e.other := by
  simp [State.endNode, State.outwardPresent, hp, outwardEnd_of he]

/-! ### What an end port accepts (R24) -/

theorem kind_ne_idle_of_accepted {f : Frame} (h : acceptedOnEnd f = true) : f.kind ≠ .idle := by
  intro hk; simp [acceptedOnEnd, hk] at h

theorem kind_ne_call_of_leadward {f : Frame} (h : acceptedOnEnd f = true) (hl : f.leadward = true) :
    f.kind ≠ .call := by
  intro hk; simp [acceptedOnEnd, hk, hl] at h

/-! ### The relay engine at a node with a position (R26, R27, R33) -/

section relay

variable {e : End} {f : Frame} (r : LineRate) {s : State}

/-- A frame with flags or destination that its kind does not allow (R24). -/
theorem relay_notAccepted (hp : s.holdsPosition = true) (ha : acceptedOnEnd f = false) :
    relay (.line e) f r s = directionError s := by
  simp [relay, relayPlaced, hp, ha]

/-- A leadward frame on the leadward end (R26). -/
theorem relay_leadwardOnLeadEnd (hp : s.holdsPosition = true) (ha : acceptedOnEnd f = true) (hl : f.leadward = true)
    (he : s.consist.leadEnd = some e) : relay (.line e) f r s = directionError s := by
  simp [relay, relayPlaced, hp, ha, hl, he, kind_ne_call_of_leadward ha hl]

/-- A leadward frame on the outward end (R33). -/
theorem relay_leadward (hp : s.holdsPosition = true) (ha : acceptedOnEnd f = true) (hl : f.leadward = true)
    (he : s.consist.leadEnd = some e.other) : relay (.line e) f r s = takeLeadward f r s := by
  simp [relay, relayPlaced, hp, ha, hl, he, kind_ne_call_of_leadward ha hl]

/-- An outward frame on the outward end, or at a node with the lead role (R26). -/
theorem relay_outwardRefused (hp : s.holdsPosition = true) (ha : acceptedOnEnd f = true) (hk : f.kind ≠ .call)
    (hl : f.leadward = false) (h : s.consist.leadEnd ≠ some e ∨ s.lead.role = true) :
    relay (.line e) f r s = directionError s := by
  have hn : ¬ (s.consist.leadEnd = some e ∧ s.lead.role = false) := by
    rintro ⟨he, hr⟩
    rcases h with h | h
    · exact h he
    · rw [hr] at h; cases h
  simp [relay, relayPlaced, hp, ha, hk, hl, hn]

/-- An outward frame on the leadward end (R27). -/
theorem relay_outward (hp : s.holdsPosition = true) (ha : acceptedOnEnd f = true) (hk : f.kind ≠ .call)
    (hl : f.leadward = false) (he : s.consist.leadEnd = some e) (hrole : s.lead.role = false) :
    relay (.line e) f r s = takeOutward f r s := by
  simp [relay, relayPlaced, hp, ha, hk, hl, he, hrole]

end relay

/-! ### The same over the scratch fields and a frame heard -/

@[simp] theorem withScratch_consist (s : State) (c : Scratch) : (s.withScratch c).consist = s.consist := rfl
@[simp] theorem withScratch_lead (s : State) (c : Scratch) : (s.withScratch c).lead = s.lead := rfl
@[simp] theorem withScratch_now (s : State) (c : Scratch) : (s.withScratch c).now = s.now := rfl
@[simp] theorem withScratch_mgmt (s : State) (c : Scratch) : (s.withScratch c).mgmt = s.mgmt := rfl
@[simp] theorem withScratch_holdsPosition (s : State) (c : Scratch) :
    (s.withScratch c).holdsPosition = s.holdsPosition := rfl
@[simp] theorem withScratch_endNode (s : State) (c : Scratch) : (s.withScratch c).endNode = s.endNode := by
  simp only [State.endNode, State.outwardPresent, alive_withScratch]; rfl
@[simp] theorem withScratch_roomFor (s : State) (c : Scratch) (p : Port) (n : Nat) :
    (s.withScratch c).roomFor p n ↔ s.roomFor p n := by
  unfold State.roomFor; rw [port_withScratch]

end Sys2Proof.Machine
end

section
/-! The statements about frames that go the wrong way, frames that the cab port refuses, and leadward frames. -/

namespace Sys2Proof.Machine

/-- A frame dropped as a direction error changes the count alone (R42). -/
theorem exec_directionError {i : Instr} {e : End} {f : Frame} {s : State} (ha : i.arriving = some (.line e, f))
    (h : Heard (.line e) f s) (hk : f.kind ≠ .idle)
    (hrelay : ∀ c, relay (.line e) f (s.rateAt (.line e)) ((heard (.line e) s).withScratch c) =
      directionError ((heard (.line e) s).withScratch c)) :
    exec i s = .next { heard (.line e) s with directionErrors := min 255 (s.directionErrors + 1) } := by
  refine exec_heard_keeping ha h hk (fun c => (hrelay c).trans ?_) ⟨rfl, rfl, rfl, rfl, rfl⟩
  rw [← heard_directionErrors (.line e) s]; rfl

/-- Settles O16: each of the four is a direction error of the relay engine. -/
theorem wrongWayFramesAreDropped : Obligations.WrongWayFramesAreDropped := by
  intro i e f s ha h hp hk hcase
  refine exec_directionError ha h hk (fun c => ?_)
  have hp' : ((heard (.line e) s).withScratch c).holdsPosition = true := (heard_holdsPosition _ s).trans hp
  have he' : ((heard (.line e) s).withScratch c).consist.leadEnd = s.consist.leadEnd := heard_leadEnd _ s
  rcases hcase with hacc | hst | ⟨hacc, hl, he⟩ | ⟨hacc, hl, hc, hrefused⟩
  · exact relay_notAccepted _ hp' hacc
  · exact relay_notAccepted _ hp' (by simp [acceptedOnEnd, hst])
  · exact relay_leadwardOnLeadEnd _ hp' hacc hl (he'.trans he)
  · refine relay_outwardRefused _ hp' hacc hc hl ?_
    rwa [he', withScratch_lead, heard_lead]

/-! ### The cab port (R37 to R40) -/

/-- What a lead sends on from its cab port carries hop 1 and source 1, and its own check (R37, R38). -/
theorem fromCab_fields (f : Frame) (dest : Byte) : (f.fromCab dest).leadward = false ∧
    (f.fromCab dest).reflected = false ∧ (f.fromCab dest).hop = 1 ∧ (f.fromCab dest).checkGood = true :=
  ⟨(flagsByte_fields false false 1).1, (flagsByte_fields false false 1).2.1, (flagsByte_fields false false 1).2.2,
    recheck_checkGood _⟩

/-- A frame that the cab port refuses changes the count alone (R42). -/
theorem exec_cabRefusal {i : Instr} {f : Frame} {s : State} (ha : i.arriving = some (.cab, f)) (h : Heard .cab f s)
    (hk : f.kind ≠ .idle) (hrelay : ∀ c, relay .cab f (s.rateAt .cab) ((heard .cab s).withScratch c) =
      cabRefusal ((heard .cab s).withScratch c)) :
    exec i s = .next { heard .cab s with cabRefusals := min 255 (s.cabRefusals + 1) } := by
  refine exec_heard_keeping ha h hk (fun c => (hrelay c).trans ?_) ⟨rfl, rfl, rfl, rfl, rfl⟩
  rw [← heard_cabRefusals .cab s]; rfl

/-- A lead refuses every cab frame but an ORDER and a REQUEST (R39). -/
theorem relayCabLead_otherKind {f : Frame} (r : LineRate) (s : State) (ho : f.kind ≠ .order) (hr : f.kind ≠ .request) :
    relayCabLead f r s = cabRefusal s := by
  unfold relayCabLead; dsimp only; split <;> simp_all

/-- A cab REQUEST at a lead that is not its own to answer (R38). -/
theorem relayCabLead_request {f : Frame} (r : LineRate) {s : State} (hk : f.kind = .request) (h0 : f.dest ≠ 0)
    (h1 : ¬ (f.dest = 1 ∧ s.consist.position = 1)) : relayCabLead f r s =
      if 2 ≤ f.dest.toNat ∧ f.dest.toNat ≤ 32 ∧ (s.holdsPosition && !s.endNode) = true then
        offerEnd s.outwardEnd (f.fromCab f.dest) r s
      else cabRefusal s := by
  have hn : ¬ (f.dest.toNat = 0 ∨ f.dest.toNat = 1 ∧ s.consist.position = 1) := by
    rintro (h | ⟨h, hp⟩)
    · exact h0 (BitVec.eq_of_toNat_eq h)
    · exact h1 ⟨BitVec.eq_of_toNat_eq h, hp⟩
  simp only [relayCabLead, hk, if_neg hn]

/-- Settles O17: the refusals by kind, and the lead's REQUESTs by destination. -/
theorem cabRefusalsAreCounted : Obligations.CabRefusalsAreCounted := by
  refine ⟨fun i f s ha h hk hlead hother => ?_, fun i f s ha h hk hrole h0 h1 hdest => ?_,
    fun i f s e ha h hk hrole h2 h32 hp he hal hroom => ?_⟩
  · refine exec_cabRefusal ha h hk (fun c => ?_)
    cases hrole : s.lead.role with
    | true => simp [relay, hrole, relayCabLead_otherKind _ _ (hlead hrole).1 (hlead hrole).2]
    | false => simp only [relay, withScratch_lead, heard_lead, hrole, relayCabOther, if_neg (hother hrole)]; rfl
  · refine exec_cabRefusal ha h (by simp [hk]) (fun c => ?_)
    have hn : ¬ (2 ≤ f.dest.toNat ∧ f.dest.toNat ≤ 32 ∧ (s.holdsPosition && !s.endNode) = true) := by
      rintro ⟨h2, h32, hs⟩
      rcases hdest with h | h | h | h
      · rw [h] at h2; exact absurd h2 (by decide)
      · omega
      · simp [h] at hs
      · simp [h] at hs
    have hend : (heard .cab s).endNode = s.endNode := by
      simp [State.endNode, State.outwardPresent, State.outwardEnd]
    rw [relay, if_pos (by simpa using hrole), relayCabLead_request _ hk h0 (by simpa using h1), if_neg]
    simpa [hend] using hn
  · set u := heard .cab s with hu
    set q : Queued := ⟨f.fromCab f.dest, s.rateAt .cab, false⟩ with hq
    obtain ⟨hl, hr, hh, hc⟩ := fromCab_fields f f.dest
    refine ⟨u.enqueue (.line e) q, q.frame, exec_heard_keeping ha h (by simp [hk]) (fun c => ?_) ?_,
      queues_enqueue _ _ _, hk, hl, hr, hh, rfl, rfl, rfl, hc, fun x hx => port_enqueue_ne _ _ _ hx,
      onlyPorts_enqueue _ _ _⟩
    · have hp' : (u.withScratch c).holdsPosition = true := (heard_holdsPosition _ s).trans hp
      have he' : (u.withScratch c).consist.leadEnd = some e.other := (heard_leadEnd _ s).trans he
      have hend : (u.withScratch c).endNode = false := by rw [endNode_of hp' he']; simp [hu, hal]
      have h0 : f.dest ≠ 0 := by rintro h; rw [h] at h2; exact absurd h2 (by decide)
      have h1 : f.dest ≠ 1 := by rintro h; rw [h] at h2; exact absurd h2 (by decide)
      rw [relay, if_pos (by simpa [hu] using hrole), relayCabLead_request _ hk h0 (fun h => h1 h.1),
        if_pos ⟨h2, h32, by rw [hp', hend]; rfl⟩, outwardEnd_of he', End.other_other,
        offerEnd_room _ _ (by simpa [hu] using hroom), enqueue_withScratch]
    · exact enqueue_keepsUnits _ _ _

/-! ### Leadward frames (R33, R34) -/

/-- Settles O19: a leadward frame goes out of the leadward end beyond position 1, and a REPLY to the lead's cab port. -/
theorem leadwardFramesReachTheCab : Obligations.LeadwardFramesReachTheCab := by
  refine ⟨fun i e f s ha h hp h1 he hacc hl hroom => ?_, fun e f s h hp h1 hrole he hacc hroom => ?_⟩
  · refine ⟨(heard (.line e) s).enqueue (.line e.other) ⟨f, s.rateAt (.line e), false⟩,
      exec_heard_keeping ha h (kind_ne_idle_of_accepted hacc) (fun c => ?_) (enqueue_keepsUnits _ _ _),
      queues_enqueue _ _ _, onlyPorts_enqueue _ _ _, fun q hq => port_enqueue_ne _ _ _ hq⟩
    rw [relay_leadward _ (by simpa using hp) hacc hl (by simpa using he), takeLeadward, if_pos (by simpa using h1),
      withScratch_consist, heard_leadEnd, he, offerEnd_room _ _ (by simpa using hroom), enqueue_withScratch]
  · have hl : (frameOf f .reply []).leadward = true := by
      simp only [acceptedOnEnd, frameOf, Bool.and_eq_true] at hacc
      exact hacc.1.1
    refine ⟨(heard (.line e) s).enqueue .cab ⟨frameOf f .reply [], s.rateAt (.line e), false⟩,
      exec_heard_keeping rfl h (kind_ne_idle_of_accepted hacc) (fun c => ?_) (enqueue_keepsUnits _ _ _),
      queues_enqueue _ _ _, onlyPorts_enqueue _ _ _, fun q hq => port_enqueue_ne _ _ _ hq⟩
    rw [relay_consumed (by simpa using hp) (by simpa using h1) (by simpa using hrole) (by simpa using he) hacc
      (by simp [frameOf]) hl]
    show offer .cab _ _ _ = _
    rw [offer_room _ _ (by simpa using hroom), enqueue_withScratch]

end Sys2Proof.Machine
end

section
/-! Outward frames at a node with a position: their source handed on, and what is sent on outward (R27 to R32). -/

namespace Sys2Proof.Machine

/-! ### The source handed to the consist unit (R27, R77) -/

section handSource

variable (src : Byte) (s : State)

/-- A source handed on changes the lead-loss timer alone (R77). -/
theorem handSource_eq : handSource src s = { s with consist := { s.consist with
    leadLoss := if src = 1 ∧ s.placedOrStale = true ∧ s.lead.role = false then
      some (s.now + s.itemN Item.leadLoss) else s.consist.leadLoss } } := by
  unfold handSource; split <;> rfl

@[simp] theorem handSource_withScratch (c : Scratch) :
    handSource src (s.withScratch c) = (handSource src s).withScratch c := withScratch_ite rfl rfl

theorem handSource_keepsUnits : KeepsUnits s (handSource src s) := by
  rw [handSource_eq]; exact ⟨rfl, rfl, rfl, rfl, rfl⟩

@[simp] theorem port_handSource (p : Port) : (handSource src s).port p = s.port p := by
  rw [handSource_eq]; rcases p with (_ | _) | _ <;> rfl
@[simp] theorem handSource_alive (e : End) : (handSource src s).alive e = s.alive e := by
  rw [handSource_eq]; cases e <;> rfl
@[simp] theorem handSource_roomFor (p : Port) (n : Nat) : (handSource src s).roomFor p n ↔ s.roomFor p n := by
  unfold State.roomFor; rw [port_handSource]
@[simp] theorem handSource_holdsPosition : (handSource src s).holdsPosition = s.holdsPosition := by
  rw [handSource_eq]; rfl
@[simp] theorem handSource_position : (handSource src s).consist.position = s.consist.position := by rw [handSource_eq]
@[simp] theorem handSource_leadEnd : (handSource src s).consist.leadEnd = s.consist.leadEnd := by rw [handSource_eq]
@[simp] theorem handSource_mgmt : (handSource src s).mgmt = s.mgmt := by rw [handSource_eq]
@[simp] theorem handSource_events : (handSource src s).events = s.events := by rw [handSource_eq]
@[simp] theorem handSource_directionErrors : (handSource src s).directionErrors = s.directionErrors := by
  rw [handSource_eq]

end handSource

/-! ### Frames sent on (R28) -/

/-- The header that a frame sent on carries (R28, R35). -/
theorem withHop_fields (f : Frame) (n : Nat) : (f.withHop n).leadward = f.leadward ∧
    (f.withHop n).reflected = f.reflected := by
  have h := flagsByte_fields f.leadward f.reflected ⟨min 63 n, by omega⟩
  rw [← flagsByte_min] at h
  exact ⟨h.1, h.2.1⟩

section forward

variable {e : End} {s : State} (f : Frame) (r : LineRate)

/-- With a neighbour beyond it, a node sends a frame that is no sweep on at its own position as hop (R28). -/
theorem forwardOutward_on (hp : s.holdsPosition = true) (he : s.consist.leadEnd = some e)
    (hal : s.alive e.other = true) (hroom : s.roomFor (.line e.other) 1) :
    forwardOutward f r s = s.enqueue (.line e.other) ⟨f.withHop s.consist.position, r, false⟩ := by
  rw [forwardOutward, endNode_of hp he, hal, outwardEnd_of he, offerEnd_room _ _ hroom]; rfl

/-- At the end node it is consumed (R32). -/
theorem forwardOutward_consumed (hp : s.holdsPosition = true) (he : s.consist.leadEnd = some e)
    (hal : s.alive e.other = false) : forwardOutward f r s = s := by
  rw [forwardOutward, endNode_of hp he, hal]; rfl

end forward

/-! ### The command -/

/-- A frame that the relay engine takes as an outward one, in the state that its source has left (R27). -/
theorem exec_outward {i : Instr} {e : End} {f : Frame} {s t : State} (ha : i.arriving = some (.line e, f))
    (h : Heard (.line e) f s) (hp : s.holdsPosition = true) (hacc : acceptedOnEnd f = true) (hk : f.kind ≠ .call)
    (hl : f.leadward = false) (he : s.consist.leadEnd = some e) (hrole : s.lead.role = false)
    (htake : ∀ c, takeOutward f (s.rateAt (.line e)) ((heard (.line e) s).withScratch c) = t.withScratch c)
    (ht : KeepsUnits (handSource f.src (heard (.line e) s)) t) : exec i s = .next t := by
  refine exec_heard_keeping ha h (kind_ne_idle_of_accepted hacc) (fun c => ?_)
    ((handSource_keepsUnits _ _).trans ht)
  rw [relay_outward _ (by simpa using hp) hacc hk hl (by simpa using he) (by simpa using hrole), htake]

end Sys2Proof.Machine
end

section
/-! The statement about outward REQUESTs. -/

namespace Sys2Proof.Machine

/-! ### A REPLY on the line (R181) -/

/-- With room for it a REPLY joins the queue of the leadward end. -/
theorem reply_line {e : End} {s : State} (code : Byte) (st : Status) (data : List Byte)
    (he : s.consist.leadEnd = some e) (hroom : s.roomFor (.line e) 1) : reply .line code st data s =
      s.enqueue (.line e) (queued (replyFrame s.consist.position code st data)) := by
  simp only [reply, State.replyPort, he, Option.map_some]
  exact offer_room _ _ hroom

/-- It brings that REPLY and nothing else. -/
theorem lineReply_enqueue (e : End) (code : Byte) (st : Status) (data : List Byte) {u v : State}
    (hport : ∀ p, v.port p = u.port p) (hpos : v.consist.position = u.consist.position) :
    LineReply e code st data u (v.enqueue (.line e) (queued (replyFrame v.consist.position code st data))) := by
  refine ⟨?_, fun q hq => (port_enqueue_ne _ _ _ hq).trans (hport q)⟩
  rw [← hpos, Queues, ← hport]
  exact queues_enqueue _ _ _

/-! ### The requests themselves (R178, R182, R186) -/

/-- A request with a known code and a good length is executed where no reset is pending (R181). -/
theorem respond_executes {src : Source} {l : List Byte} {s : State} (hk : knownCode (byteAt l 0) = true)
    (hr : s.mgmt.state ≠ .resetPending) (hl : requestLength l = true) : respond src l s = execute src l s := by
  simp [respond, hk, hr, hl]

theorem respond_readItems {src : Source} {a n : Byte} {s : State} (hr : s.mgmt.state ≠ .resetPending)
    (h1 : 1 ≤ n.toNat) (h16 : n.toNat ≤ 16) (h89 : a.toNat + n.toNat ≤ 89) : respond src [1, a, n] s =
      reply src 1 .done ([a, n] ++ bytesOf (s.itemValues a.toNat n.toNat)) s := by
  rw [respond_executes rfl hr rfl]
  show answerReadItems src a n s = _
  rw [answerReadItems, if_pos (by simp [itemRange, h1, h16, h89])]

theorem respond_readEvents {src : Source} {s : State} (hr : s.mgmt.state ≠ .resetPending) :
    respond src [6] s = reply src 6 .done (eventBytes s.events) { s with events := 0 } :=
  respond_executes rfl hr rfl

/-- A lead-control request along the line is refused with NOT_LEAD (R186). -/
theorem respond_leadControl {l : List Byte} {s : State} (hr : s.mgmt.state ≠ .resetPending)
    (hl : l = [9] ∨ l = [10] ∨ (byteAt l 0 = 11 ∧ l.length = 6)) :
    respond .line l s = reply .line (byteAt l 0) .notLead [] s := by
  rcases hl with rfl | rfl | ⟨hc, hlen⟩
  · exact respond_executes rfl hr rfl
  · exact respond_executes rfl hr rfl
  · rw [respond_executes (by rw [hc]; rfl) hr (by simp [requestLength, hc, hlen])]
    simp [execute, hc, answerHeatSetup, refuse]

/-! ### Routing (R29) -/

section route

variable {e : End} {f : Frame} (r : LineRate) {s : State}

theorem takeOutward_request (hk : f.kind = .request) :
    takeOutward f r s = routeRequest f r (handSource f.src s) := by simp [takeOutward, hk]

theorem routeRequest_beyond (hp : s.holdsPosition = true) (he : s.consist.leadEnd = some e)
    (hd : s.consist.position < f.dest.toNat) (hal : s.alive e.other = true) (hroom : s.roomFor (.line e.other) 1) :
    routeRequest f r s = s.enqueue (.line e.other) ⟨f.withHop s.consist.position, r, false⟩ := by
  have hn : ¬ (f.dest.toNat < s.consist.position ∨ s.endNode = true) := by
    rw [endNode_of hp he, hal]; simp; omega
  rw [routeRequest, if_neg (by omega), if_neg hn, outwardEnd_of he, offerEnd_room _ _ hroom]

theorem routeRequest_dropped (hp : s.holdsPosition = true) (he : s.consist.leadEnd = some e)
    (hd : f.dest.toNat < s.consist.position ∨ (s.consist.position < f.dest.toNat ∧ s.alive e.other = false)) :
    routeRequest f r s = directionError s := by
  have hend := endNode_of hp he
  rcases hd with hd | ⟨hd, hal⟩
  · rw [routeRequest, if_neg (by omega), if_pos (.inl hd)]
  · rw [routeRequest, if_neg (by omega), if_pos (.inr (by rw [hend, hal]; rfl))]

theorem routeRequest_own (hd : f.dest.toNat = s.consist.position) :
    routeRequest f r s = respond .line f.payload s := by
  rw [routeRequest, if_pos hd]

end route

/-- Settles O18: the three ways of a REQUEST, in the state that its source has left. -/
theorem requestsAreRouted : Obligations.RequestsAreRouted := by
  intro i e f s ha h hk hp hp32 he hrole hacc
  have hflags : f.leadward = false ∧ f.reflected = false := by
    simp only [acceptedOnEnd, hk, Bool.and_eq_true, Bool.not_eq_true'] at hacc
    exact ⟨hacc.1.1.1, hacc.1.1.2⟩
  set u := handSource f.src (heard (.line e) s) with hu
  have hup : u.holdsPosition = true := by simpa [hu] using hp
  have hue : u.consist.leadEnd = some e := by simpa [hu] using he
  have hupos : u.consist.position = s.consist.position := by simp [hu]
  have hexec {t : State} (hroute : ∀ c, routeRequest f (s.rateAt (.line e)) (u.withScratch c) = t.withScratch c)
      (ht : KeepsUnits u t) : exec i s = .next t :=
    exec_outward ha h hp hacc (by simp [hk]) hflags.1 he hrole
      (fun c => by rw [takeOutward_request _ hk, handSource_withScratch, hroute]) ht
  refine ⟨fun hd hal hroom => ?_, fun hd => ?_, fun hd hr hroom => ?_⟩
  · refine ⟨_, f.withHop s.consist.position, hexec (fun c => ?_) (enqueue_keepsUnits (.line e.other) _ u),
      queues_enqueue _ _ _, ?_, (withHop_fields f _).1.trans hflags.1, (withHop_fields f _).2.trans hflags.2, rfl, rfl,
      hk, rfl, rfl, onlyPorts_enqueue _ _ _⟩
    · rw [routeRequest_beyond (e := e) (s := u.withScratch c) _ hup hue (by simpa [hupos] using hd) (by simpa [hu] using hal)
        (by simpa [hu] using hroom), enqueue_withScratch, withScratch_consist, hupos]
    · rw [withHop_hop]; omega
  · refine hexec (fun c => ?_) ⟨rfl, rfl, rfl, rfl, rfl⟩
    rw [routeRequest_dropped (e := e) (s := u.withScratch c) _ hup hue (by simpa [hu] using hd),
      show s.directionErrors = u.directionErrors by simp [hu]]
    rfl
  · have hown (c : Scratch) : routeRequest f (s.rateAt (.line e)) (u.withScratch c) =
        respond .line f.payload (u.withScratch c) := routeRequest_own _ (by simpa [hupos] using hd)
    have hur (c : Scratch) : (u.withScratch c).mgmt.state ≠ .resetPending := by simpa [hu] using hr
    have huroom : u.roomFor (.line e) 1 := by simpa [hu] using hroom
    refine ⟨fun a n hpl h1 h16 h89 => ?_, fun hpl => ?_, fun hpl => ?_⟩
    · refine ⟨_, hexec (fun c => ?_) (enqueue_keepsUnits _ _ u), onlyPorts_enqueue _ _ _,
        lineReply_enqueue e _ _ _ (fun _ => rfl) rfl⟩
      rw [hown, hpl, respond_readItems (hur c) h1 h16 h89, reply_line (s := u.withScratch c) _ _ _ hue (by simpa using huroom),
        enqueue_withScratch]
      rfl
    · obtain ⟨v, hv⟩ : ∃ v : State, v = { u with events := 0 } := ⟨_, rfl⟩
      have hport (p : Port) : v.port p = u.port p := by rw [hv]; rcases p with (_ | _) | _ <;> rfl
      have hve : v.consist.leadEnd = some e := by rw [hv]; exact hue
      have hvroom : v.roomFor (.line e) 1 := by rw [State.roomFor, hport]; exact huroom
      have hread (c : Scratch) : respond .line [6] (u.withScratch c) =
          reply .line 6 .done (eventBytes u.events) (v.withScratch c) := by rw [respond_readEvents (hur c), hv]; rfl
      have hvk : KeepsUnits u v := by rw [hv]; exact ⟨rfl, rfl, rfl, rfl, rfl⟩
      rw [← hv, show (heard (.line e) s).events = u.events by simp [hu]]
      refine ⟨_, hexec (fun c => ?_) (hvk.trans (enqueue_keepsUnits _ _ v)), onlyPorts_enqueue _ _ _,
        lineReply_enqueue e 6 .done (eventBytes u.events) hport (by rw [hv])⟩
      rw [hown, hpl, hread, reply_line (s := v.withScratch c) _ _ _ hve (by simpa using hvroom), enqueue_withScratch]
      rfl
    · refine ⟨_, hexec (fun c => ?_) (enqueue_keepsUnits _ _ u), onlyPorts_enqueue _ _ _,
        lineReply_enqueue e _ _ _ (fun _ => rfl) rfl⟩
      rw [hown, respond_leadControl (hur c) hpl,
        reply_line (s := u.withScratch c) _ _ _ hue (by simpa using huroom), enqueue_withScratch]
      rfl

end Sys2Proof.Machine
end

section
/-! What a node with a position sends on: a frame forwarded or consumed, and a sweep forwarded or reflected (R28, R31, R32). -/

namespace Sys2Proof.Machine

/-- What joins a queue joins it over any state with the same port. -/
theorem Queues.of_port {p : Port} {qs : List Queued} {s u t : State} (h : Queues p qs s t) (hp : s.port p = u.port p) :
    Queues p qs u t := by
  unfold Queues at *; rwa [← hp]

/-- The state once a frame that is no sweep has gone on out of the end opposite `e`, or has been consumed (R28, R32). -/
def forwarded (e : End) (f : Frame) (r : LineRate) (s : State) : State :=
  if s.alive e.other = true then s.enqueue (.line e.other) ⟨f.withHop s.consist.position, r, false⟩ else s

/-- The frame that a sweep goes on as at position `p`: turned round where the node has no neighbour beyond it (R28, R31). -/
def sweptFrame (beyond : Bool) (f : Frame) (p : Nat) : Frame := if beyond = true then f.withHop p else f.turned p

/-- The state once a sweep has gone on out of the end opposite `e`, or back out of `e` (R28, R31). -/
def swept (e : End) (f : Frame) (r : LineRate) (s : State) : State :=
  s.enqueue (.line (if s.alive e.other = true then e.other else e))
    ⟨sweptFrame (s.alive e.other) f s.consist.position, r, false⟩

section forwarded

variable {e : End} {f : Frame} {r : LineRate} {s : State}

theorem forwardOutward_eq (hp : s.holdsPosition = true) (he : s.consist.leadEnd = some e)
    (hroom : s.alive e.other = true → s.roomFor (.line e.other) 1) : forwardOutward f r s = forwarded e f r s := by
  unfold forwarded; split
  · next h => exact forwardOutward_on f r hp he h (hroom h)
  · next h => exact forwardOutward_consumed f r hp he (by simpa using h)

@[simp] theorem forwarded_withScratch (c : Scratch) :
    forwarded e f r (s.withScratch c) = (forwarded e f r s).withScratch c := by
  unfold forwarded
  rw [alive_withScratch, enqueue_withScratch]
  exact withScratch_ite rfl rfl

theorem forwarded_keepsUnits : KeepsUnits s (forwarded e f r s) := by
  unfold forwarded; split
  · exact enqueue_keepsUnits _ _ _
  · exact ⟨rfl, rfl, rfl, rfl, rfl⟩

/-- Only the end ports change. -/
theorem forwarded_lines :
    forwarded e f r s = { s with pu1 := (forwarded e f r s).pu1, pu2 := (forwarded e f r s).pu2 } := by
  unfold forwarded; split
  · cases e <;> rfl
  · rfl

theorem forwarded_queues (h : s.alive e.other = true) :
    Queues (.line e.other) [⟨f.withHop s.consist.position, r, false⟩] s (forwarded e f r s) := by
  rw [forwarded, if_pos h]; exact queues_enqueue _ _ _

theorem forwarded_absent (h : s.alive e.other = false) : forwarded e f r s = s := by
  rw [forwarded, if_neg (by rw [h]; decide)]

end forwarded

section swept

variable {e : End} {f : Frame} {r : LineRate} {s : State}

theorem forwardSweep_eq (hp : s.holdsPosition = true) (he : s.consist.leadEnd = some e)
    (hroom : s.roomFor (.line e) 1) (hroom' : s.roomFor (.line e.other) 1) :
    forwardSweep f r s = swept e f r s := by
  unfold forwardSweep swept sweptFrame
  rw [endNode_of hp he, outwardEnd_of he, he]
  cases s.alive e.other
  · exact offerEnd_room _ _ hroom
  · exact offerEnd_room _ _ hroom'

@[simp] theorem swept_withScratch (c : Scratch) : swept e f r (s.withScratch c) = (swept e f r s).withScratch c := by
  simp [swept]

theorem swept_keepsUnits : KeepsUnits s (swept e f r s) := enqueue_keepsUnits _ _ _

/-- Only the end ports change. -/
theorem swept_lines : swept e f r s = { s with pu1 := (swept e f r s).pu1, pu2 := (swept e f r s).pu2 } := by
  unfold swept; split <;> cases e <;> rfl

@[simp] theorem sweptFrame_kind (b : Bool) (f : Frame) (p : Nat) : (sweptFrame b f p).kind = f.kind := by
  cases b <;> rfl
@[simp] theorem sweptFrame_dest (b : Bool) (f : Frame) (p : Nat) : (sweptFrame b f p).dest = f.dest := by
  cases b <;> rfl
@[simp] theorem sweptFrame_src (b : Bool) (f : Frame) (p : Nat) : (sweptFrame b f p).src = f.src := by
  cases b <;> rfl
@[simp] theorem sweptFrame_payload (b : Bool) (f : Frame) (p : Nat) : (sweptFrame b f p).payload = f.payload := by
  cases b <;> rfl
@[simp] theorem sweptFrame_checkGood (b : Bool) (f : Frame) (p : Nat) : (sweptFrame b f p).checkGood = true := by
  cases b
  · exact recheck_checkGood _
  · exact withHop_checkGood f p

theorem sweptFrame_hop (b : Bool) (f : Frame) {p : Nat} (hp : p ≤ 63) : (sweptFrame b f p).hop = p := by
  cases b
  · exact (flagsByte_fields true true ⟨p, by omega⟩).2.2
  · exact (withHop_hop f p).trans (by omega)

theorem turned_fields (f : Frame) {p : Nat} (hp : p ≤ 63) : (f.turned p).leadward = true ∧ (f.turned p).reflected = true :=
  have h := flagsByte_fields true true ⟨p, by omega⟩
  ⟨h.1, h.2.1⟩

/-- A sweep so sent goes on in the sense of R28 and R31, `s` being the state in which the node heard it and `v` the one in
which it has acted on it. -/
theorem swept_goesOn {v : State} (hport : ∀ p, v.port p = (heard (.line e) s).port p)
    (hal : v.alive e.other = s.alive e.other) (hpos : v.consist.position = s.consist.position)
    (h63 : s.consist.position ≤ 63) (hl : f.leadward = false) :
    SweepGoesOn e (sweptFrame (s.alive e.other) f s.consist.position) s (swept e f (s.rateAt (.line e)) v) := by
  refine ⟨sweptFrame_hop _ _ h63, sweptFrame_checkGood _ _ _, fun h => ?_, fun h => ?_⟩
  · refine ⟨by rw [h]; exact (withHop_fields f _).1.trans hl, Queues.of_port ?_ (hport _)⟩
    rw [swept, hal, hpos, if_pos h]
    exact queues_enqueue _ _ _
  · refine ⟨by rw [h]; exact (turned_fields f h63).1, by rw [h]; exact (turned_fields f h63).2,
      Queues.of_port ?_ (hport _)⟩
    rw [swept, hal, hpos, if_neg (by rw [h]; decide)]
    exact queues_enqueue _ _ _

end swept

/-! ### The command -/

/-- A sweep that the relay engine takes as an outward frame, acted on and sent on (R27). -/
theorem exec_sweep {i : Instr} {e : End} {f g : Frame} {s v : State} {act : Frame → State → Frame × State}
    (ha : i.arriving = some (.line e, f)) (h : Heard (.line e) f s) (hp : s.holdsPosition = true)
    (hacc : acceptedOnEnd f = true) (hk : f.kind ≠ .call) (hl : f.leadward = false) (he : s.consist.leadEnd = some e)
    (hrole : s.lead.role = false) (hroom : s.roomFor (.line e) 1) (hroom' : s.roomFor (.line e.other) 1)
    (htake : ∀ r t, takeOutward f r t = sweep act f r (handSource f.src t))
    (hact : ∀ c, act f ((handSource f.src (heard (.line e) s)).withScratch c) = (g, v.withScratch c))
    (hvu : KeepsUnits (handSource f.src (heard (.line e) s)) v) (hvp : v.holdsPosition = true)
    (hve : v.consist.leadEnd = some e) (hport : ∀ p, v.port p = (heard (.line e) s).port p) :
    exec i s = .next (swept e g (s.rateAt (.line e)) v) := by
  have hvroom {x : End} (hr : s.roomFor (.line x) 1) : v.roomFor (.line x) 1 := by
    unfold State.roomFor at *; rwa [hport, heard_queue]
  refine exec_outward ha h hp hacc hk hl he hrole (fun c => ?_) (hvu.trans swept_keepsUnits)
  rw [htake, handSource_withScratch, sweep, hact, ← swept_withScratch]
  exact forwardSweep_eq (s := v.withScratch c) hvp hve (by simpa using hvroom hroom) (by simpa using hvroom hroom')

end Sys2Proof.Machine
end

section
/-! The statement about a ROSTER: its entries as a fold over their numbers, and what a fold of stores leaves at each
position (R63). -/

namespace Sys2Proof.Machine

/-! ### The entries of a ROSTER (R19) -/

/-- A record is read from its first ten bytes. -/
theorem ofBytes_take (l : List Byte) : CoachRecord.ofBytes (l.take 10) = CoachRecord.ofBytes l := by
  have h {i : Nat} (hi : i < 10) : byteAt (l.take 10) i = byteAt l i := by
    simp [byteAt, List.getD_eq_getElem?_getD, List.getElem?_take_of_lt hi]
  simp [CoachRecord.ofBytes, CoachRecord.identityAt, wordAt, h]

theorem rosterStores_iff {body : List Byte} {s : State} {i : Nat} : rosterStores body s i = true ↔
    i < (byteAt body 1).toNat ∧ (byteAt body 0).toNat + i ≤ 32 ∧ (byteAt body 0).toNat + i ≠ s.consist.position ∧
      (rosterRecord body i).identity ≠ s.identity := by
  simp [rosterStores, and_assoc]

/-- What a ROSTER does to the table with its entry `i` (R63). -/
def rosterStore (body : List Byte) (s : State) (t : ConsistTable) (i : Nat) : ConsistTable :=
  if rosterStores body s i = true then storeRecord ((byteAt body 0).toNat + i) (rosterRecord body i) t else t

/-- The entries from number `k` on, `m` of them, are taken one after the other (R63). -/
theorem rosterEntries_eq_foldl {body : List Byte} {s : State} (ha : 1 ≤ (byteAt body 0).toNat) (m k : Nat)
    (t : ConsistTable) (h : k + m ≤ (byteAt body 1).toNat) :
    rosterEntries s ((byteAt body 0).toNat + k) (CoachRecord.listOf m (body.drop (2 + 10 * k))) t =
      (List.range' k m).foldl (rosterStore body s) t := by
  induction m generalizing k t with
  | zero => rfl
  | succ m ih =>
    have hentry : rosterEntry s ((byteAt body 0).toNat + k) (CoachRecord.ofBytes (body.drop (2 + 10 * k))) t =
        rosterStore body s t k := by
      unfold rosterEntry rosterStore maxPosition
      by_cases hs : rosterStores body s k = true
      · obtain ⟨-, h2, h3, h4⟩ := rosterStores_iff.1 hs
        rw [if_pos hs, if_neg]
        · rfl
        · rintro (h | h | h | h)
          · omega
          · omega
          · exact h3 h
          · exact h4 h
      · rw [if_neg hs, if_pos]
        by_contra hc
        simp only [not_or] at hc
        exact hs (rosterStores_iff.2 ⟨by omega, by omega, hc.2.2.1, hc.2.2.2⟩)
    rw [CoachRecord.listOf, rosterEntries, ofBytes_take, hentry, List.drop_drop, List.range'_succ, List.foldl_cons,
      ← ih (k + 1) _ (by omega)]
    rfl

/-- A number beyond the entry count stores nothing, so every ROSTER is taken by the numbers 0..3. -/
theorem foldl_rosterStore_range {body : List Byte} {s : State} {n : Nat} (hn : (byteAt body 1).toNat = n) (h4 : n ≤ 4)
    (t : ConsistTable) :
    (List.range 4).foldl (rosterStore body s) t = (List.range n).foldl (rosterStore body s) t := by
  have hout {i : Nat} (hi : n ≤ i) (t : ConsistTable) : rosterStore body s t i = t := by
    rw [rosterStore, if_neg]
    rw [rosterStores_iff]
    omega
  have hfold (k : Nat) (hk : n ≤ k) : (List.range k).foldl (rosterStore body s) t =
      (List.range n).foldl (rosterStore body s) t := by
    induction k, hk using Nat.le_induction with
    | base => rfl
    | succ k hk ih => rw [List.range_succ, List.foldl_append, ih, List.foldl_cons, List.foldl_nil, hout hk]
  exact hfold 4 h4

/-! ### A table after a fold of stores -/

section fold

variable {body : List Byte} {s : State}

/-- What one entry leaves at a position that it does not store: the record there, unless it has the entry's identity. -/
theorem recordAt_rosterStore_ne {q i : Nat} (ha : 1 ≤ (byteAt body 0).toNat) (hq : 1 ≤ q) (hq' : q ≤ 32)
    (t : ConsistTable) (h : rosterStores body s i = true → q ≠ (byteAt body 0).toNat + i) :
    recordAt (rosterStore body s t i) q = (recordAt t q).filter (fun x =>
      !rosterStores body s i || (rosterRecord body i).identity != x.identity) := by
  unfold rosterStore
  cases hs : rosterStores body s i with
  | false =>
    rw [if_neg (by decide)]
    cases recordAt t q <;> rfl
  | true =>
    have hi := (rosterStores_iff.1 hs).2.1
    rw [if_pos rfl, recordAt_storeRecord _ _ (by omega) hi hq hq', if_neg (h hs)]
    cases recordAt t q with
    | none => rfl
    | some x => simp [Option.filter, bne_comm]

/-- A position that no entry of `l` stores keeps its record, unless an entry stored has that record's identity (R63). -/
theorem recordAt_rosterFold {q : Nat} (ha : 1 ≤ (byteAt body 0).toNat) (hq : 1 ≤ q) (hq' : q ≤ 32) (l : List Nat)
    (t : ConsistTable) (h : ∀ i ∈ l, rosterStores body s i = true → q ≠ (byteAt body 0).toNat + i) :
    recordAt (l.foldl (rosterStore body s) t) q = (recordAt t q).filter (fun x =>
      l.all (fun i => !rosterStores body s i || (rosterRecord body i).identity != x.identity)) := by
  induction l generalizing t with
  | nil =>
    rw [List.foldl_nil]
    cases recordAt t q <;> rfl
  | cons i l ih =>
    rw [List.foldl_cons, ih _ (fun j hj => h j (List.mem_cons_of_mem _ hj)),
      recordAt_rosterStore_ne ha hq hq' t (h i List.mem_cons_self), Option.filter_filter]
    simp [List.all_cons]

/-- An entry that is stored stands at its position, unless a later one has its identity (R63). -/
theorem recordAt_rosterFold_self {i : Nat} (ha : 1 ≤ (byteAt body 0).toNat) (l₁ l₂ : List Nat) (t : ConsistTable)
    (hs : rosterStores body s i = true) (hne : ∀ j ∈ l₂, j ≠ i) :
    recordAt ((l₁ ++ i :: l₂).foldl (rosterStore body s) t) ((byteAt body 0).toNat + i) =
      if l₂.any (fun j => rosterStores body s j && (rosterRecord body j).identity == (rosterRecord body i).identity) = true
      then none else some (rosterRecord body i) := by
  have hi := (rosterStores_iff.1 hs).2.1
  have hself (t : ConsistTable) :
      recordAt (rosterStore body s t i) ((byteAt body 0).toNat + i) = some (rosterRecord body i) := by
    rw [rosterStore, if_pos hs, recordAt_storeRecord _ _ (by omega) hi (by omega) hi, if_pos rfl]
  rw [List.foldl_append, List.foldl_cons,
    recordAt_rosterFold ha (by omega) hi l₂ _ (fun j hj _ => by have := hne j hj; omega), hself, Option.filter]
  have hnot : l₂.all (fun j => !rosterStores body s j ||
      (rosterRecord body j).identity != (rosterRecord body i).identity) =
      !l₂.any (fun j => rosterStores body s j && (rosterRecord body j).identity == (rosterRecord body i).identity) := by
    rw [List.not_any_eq_all_not]; simp [bne]
  rw [hnot]
  cases l₂.any _ <;> rfl

/-- The same for the numbers 0..3, the later entries named by their numbers. -/
theorem recordAt_rosterFold_stored {i : Nat} (ha : 1 ≤ (byteAt body 0).toNat) (hi : i < 4) (t : ConsistTable)
    (hs : rosterStores body s i = true) :
    recordAt ((List.range 4).foldl (rosterStore body s) t) ((byteAt body 0).toNat + i) =
      if (List.range 4).any (fun j => decide (i < j) && rosterStores body s j &&
          (rosterRecord body j).identity == (rosterRecord body i).identity) = true then none
      else some (rosterRecord body i) := by
  interval_cases i
  · exact recordAt_rosterFold_self ha [] [1, 2, 3] t hs (by decide)
  · exact recordAt_rosterFold_self ha [0] [2, 3] t hs (by decide)
  · exact recordAt_rosterFold_self ha [0, 1] [3] t hs (by decide)
  · exact recordAt_rosterFold_self ha [0, 1, 2] [] t hs (by decide)

end fold

/-! ### A ROSTER at the consist unit -/

section takeRoster

variable (l : List Byte) (s : State)

theorem takeRoster_eq :
    takeRoster l s = { s with consist := { s.consist with table := (takeRoster l s).consist.table } } := by
  unfold takeRoster; split <;> rfl

/-- The entries are tested against the node's position and identity alone. -/
theorem rosterEntries_withScratch (c : Scratch) (p : Nat) (rs : List CoachRecord) (t : ConsistTable) :
    rosterEntries (s.withScratch c) p rs t = rosterEntries s p rs t := by
  induction rs generalizing p t with
  | nil => rfl
  | cons r rs ih => exact ih _ _

@[simp] theorem takeRoster_withScratch (c : Scratch) :
    takeRoster l (s.withScratch c) = (takeRoster l s).withScratch c := by
  unfold takeRoster
  rw [rosterEntries_withScratch]
  exact withScratch_ite rfl rfl

theorem takeRoster_keepsUnits : KeepsUnits s (takeRoster l s) := by
  rw [takeRoster_eq]; exact ⟨rfl, rfl, rfl, rfl, rfl⟩

@[simp] theorem port_takeRoster (p : Port) : (takeRoster l s).port p = s.port p := by
  rw [takeRoster_eq]; rcases p with (_ | _) | _ <;> rfl
@[simp] theorem takeRoster_alive (e : End) : (takeRoster l s).alive e = s.alive e := by
  rw [takeRoster_eq]; cases e <;> rfl
@[simp] theorem takeRoster_roomFor (p : Port) (n : Nat) : (takeRoster l s).roomFor p n ↔ s.roomFor p n := by
  unfold State.roomFor; rw [port_takeRoster]
@[simp] theorem takeRoster_holdsPosition : (takeRoster l s).holdsPosition = s.holdsPosition := by
  rw [takeRoster_eq]; rfl
@[simp] theorem takeRoster_position : (takeRoster l s).consist.position = s.consist.position := by rw [takeRoster_eq]
@[simp] theorem takeRoster_leadEnd : (takeRoster l s).consist.leadEnd = s.consist.leadEnd := by rw [takeRoster_eq]

/-- A node in PLACING takes every entry in its turn (R63). -/
theorem takeRoster_table {l : List Byte} {s : State} (hp : s.consist.state = .placing)
    (hlen : lengthGood .roster l = true) (ha : 1 ≤ (byteAt l 0).toNat) :
    (takeRoster l s).consist.table = (List.range 4).foldl (rosterStore l s) s.consist.table := by
  have hn : (byteAt l 1).toNat ≤ 4 := by
    simp only [lengthGood, Bool.and_eq_true, Bool.or_eq_true, decide_eq_true_eq] at hlen
    rcases hlen.2 with h | h
    · cases h
    · exact h.2
  rw [takeRoster, if_pos hp, foldl_rosterStore_range rfl hn, List.range_eq_range']
  exact rosterEntries_eq_foldl ha _ 0 _ (by omega)

/-- Any other node stores nothing (R63). -/
theorem takeRoster_of_not_placing {l : List Byte} {s : State} (hp : s.consist.state ≠ .placing) : takeRoster l s = s := by
  rw [takeRoster, if_neg hp]

end takeRoster

/-! ### The command -/

/-- A node in PLACED or STALE holds a position, and is not PLACING. -/
theorem holdsPosition_of_placedOrStale {s : State} (h : s.placedOrStale = true) : s.holdsPosition = true := by
  unfold State.holdsPosition State.placedOrStale at *
  cases hs : s.consist.state <;> simp_all

theorem not_placing_of_placedOrStale {s : State} (h : s.placedOrStale = true) : s.consist.state ≠ .placing := by
  intro hs; simp [State.placedOrStale, hs] at h

theorem holdsPosition_of_placing {s : State} (h : s.consist.state = .placing) : s.holdsPosition = true := by
  simp [State.holdsPosition, h]

/-- In PLACING the source of an outward frame is of no account (R77). -/
theorem handSource_of_placing {src : Byte} {s : State} (h : s.consist.state = .placing) : handSource src s = s := by
  rcases handSource_cases src s with ⟨-, hp, -, -⟩ | e
  · exact absurd h (not_placing_of_placedOrStale hp)
  · exact e

/-- At a node in PLACED or STALE a source of 1 restarts the lead-loss timer (R77). -/
theorem handSource_consist_of_placed {e : End} {src : Byte} {s : State} (hal : s.alive e = true)
    (hps : s.placedOrStale = true) (hrole : s.lead.role = false) :
    (handSource src (heard (.line e) s)).consist = { s.consist with
      leadLoss := if src = 1 then some (s.now + s.itemN Item.leadLoss) else s.consist.leadLoss } := by
  have hps' : (heard (.line e) s).placedOrStale = true := by
    rw [State.placedOrStale, heard_consist_of_alive hal]; exact hps
  rw [handSource_eq, hps', heard_consist_of_alive hal, heard_lead, hrole]
  simp [State.itemN, State.item]

/-- A ROSTER at a node with a position, its source handed on, its entries taken, and the frame sent on (R27, R28). -/
theorem exec_roster {e : End} {f : LineFrame} {s : State} (h : Heard (.line e) (frameOf f .roster []) s)
    (hp : s.holdsPosition = true) (he : s.consist.leadEnd = some e) (hrole : s.lead.role = false)
    (hacc : acceptedOnEnd (frameOf f .roster []) = true) (hroom : s.roomFor (.line e.other) 1) :
    exec (.roster (.line e) f) s = .next (forwarded e (frameOf f .roster []) (s.rateAt (.line e))
      (takeRoster f.body (handSource f.src (heard (.line e) s)))) := by
  have hl : (frameOf f .roster []).leadward = false := by
    simp only [acceptedOnEnd, frameOf, Bool.and_eq_true, Bool.not_eq_true'] at hacc
    exact hacc.1.1
  refine exec_outward rfl h hp hacc (by simp [frameOf]) hl he hrole (fun c => ?_)
    ((takeRoster_keepsUnits _ _).trans forwarded_keepsUnits)
  show forwardOutward _ _ (takeRoster f.body (handSource f.src _)) = _
  rw [handSource_withScratch, takeRoster_withScratch, ← forwarded_withScratch]
  exact forwardOutward_eq (by simpa using hp) (by simpa using he) (fun _ => by simpa using hroom)

/-- What it sends on (R28). -/
theorem roster_goesOn {e : End} {f : LineFrame} {s v : State} (hport : ∀ p, v.port p = (heard (.line e) s).port p)
    (hal : v.alive e.other = s.alive e.other) (hpos : v.consist.position = s.consist.position)
    (h32 : s.consist.position ≤ 32) :
    (s.alive e.other = true → ∃ g, Queues (.line e.other) [⟨g, s.rateAt (.line e), false⟩] (heard (.line e) s)
        (forwarded e (frameOf f .roster []) (s.rateAt (.line e)) v) ∧
      g.kind = .roster ∧ g.hop = s.consist.position ∧ g.payload = f.body ∧ g.checkGood = true) ∧
    (s.alive e.other = false →
      (forwarded e (frameOf f .roster []) (s.rateAt (.line e)) v).port (.line e.other) = s.port (.line e.other)) := by
  refine ⟨fun hn => ⟨_, (forwarded_queues (hal.trans hn)).of_port (hport _), rfl, ?_, rfl, withHop_checkGood _ _⟩,
    fun hn => ?_⟩
  · rw [withHop_hop, hpos]; omega
  · rw [forwarded_absent (hal.trans hn), hport, heard_port_ne _ _ (by simp)]

/-- Settles O25: the entries of a ROSTER as a fold of stores, and a node that stores nothing. -/
theorem rosterEntriesAreStored : Obligations.RosterEntriesAreStored := by
  refine ⟨fun e f s h hal hpl h32 he hrole hacc hroom ha => ?_, fun e f s h hal hps h32 he hrole hacc hroom => ?_⟩
  · have hexec := exec_roster h (holdsPosition_of_placing hpl) he hrole hacc hroom
    set u := heard (.line e) s with hu
    have hupl : u.consist.state = .placing := by rw [hu, heard_consist_of_alive hal, hpl]
    rw [handSource_of_placing hupl] at hexec
    have hstores (i : Nat) : rosterStores f.body u i = rosterStores f.body s i := by simp [rosterStores, hu]
    have hstore : rosterStore f.body u = rosterStore f.body s := by
      funext t i; rw [rosterStore, hstores]; rfl
    obtain ⟨hon, hend⟩ := roster_goesOn (e := e) (f := f) (s := s) (v := takeRoster f.body u) (by simp [hu])
      (by simp [hu]) (by simp [hu]) h32
    set t := forwarded e (frameOf f .roster []) (s.rateAt (.line e)) (takeRoster f.body u) with ht
    have htable : t.consist.table = (List.range 4).foldl (rosterStore f.body s) s.consist.table := by
      rw [ht, forwarded_lines, ← hstore, ← heard_table (.line e) s]
      exact takeRoster_table hupl h.2.2.2.1 ha
    refine ⟨t, hexec, fun i hi hs => ?_, fun p hp1 hp2 hp => ?_, hon, hend, ?_⟩
    · rw [htable, recordAt_rosterFold_stored ha hi _ hs]
    · rw [htable, recordAt_rosterFold ha hp1 hp2 _ _ (fun i hi => hp i (List.mem_range.1 hi))]
    · rw [ht, forwarded_lines, takeRoster_eq, ← heard_table (.line e) s]; exact heard_of_alive hal
  · have hexec := exec_roster h (holdsPosition_of_placedOrStale hps) he hrole hacc hroom
    set u := handSource f.src (heard (.line e) s) with hu
    have hust : u.consist.state ≠ .placing := by
      rw [hu, handSource_eq, heard_consist_of_alive hal]; exact not_placing_of_placedOrStale hps
    rw [takeRoster_of_not_placing hust] at hexec
    obtain ⟨hon, hend⟩ := roster_goesOn (e := e) (f := f) (s := s) (v := u) (by simp [hu]) (by simp [hu])
      (by simp [hu]) h32
    refine ⟨_, hexec, ?_, hon, hend, ?_⟩
    · rw [forwarded_lines, hu]; exact handSource_consist_of_placed hal hps hrole
    · rw [forwarded_lines, hu, handSource_eq]
      exact congrArg (fun x : State => { x with consist := s.consist }) (heard_of_alive hal)

end Sys2Proof.Machine
end

section
/-! The statement about a CONFIRM at a node (R64). -/

namespace Sys2Proof.Machine

/-! ### Payloads read and written again (R17) -/

/-- A 16-bit field is sent as it was received. -/
@[simp] theorem wordBytes_append (hi lo : Byte) : wordBytes (hi ++ lo) = [lo, hi] := by
  have hlo : loByte (hi ++ lo) = lo := by
    ext i h
    rw [loByte, BitVec.getElem_extractLsb', BitVec.getLsbD_append, Nat.zero_add, if_pos h, BitVec.getLsbD_eq_getElem h]
  have hhi : hiByte (hi ++ lo) = hi := by
    ext i h
    rw [hiByte, BitVec.getElem_extractLsb', BitVec.getLsbD_append, if_neg (by omega), Nat.add_sub_cancel_left,
      BitVec.getLsbD_eq_getElem h]
  rw [wordBytes, hlo, hhi]

/-- A CONFIRM's payload written again as it was read, but for first-mismatch (R19). -/
theorem confirmData_payload_mismatch {l : List Byte} (h : l.length = 4) (m : Byte) :
    { ConfirmData.ofPayload l with mismatch := m }.payload = l.take 3 ++ [m] := by
  match l, h with
  | [a, b, c, d], _ => simp [ConfirmData.ofPayload, ConfirmData.payload, byteAt, wordAt]

theorem confirmData_payload {l : List Byte} (h : l.length = 4) : (ConfirmData.ofPayload l).payload = l := by
  refine (confirmData_payload_mismatch h (byteAt l 3)).trans ?_
  match l, h with
  | [a, b, c, d], _ => rfl

/-! ### Agreement with a CONFIRM (R64) -/

theorem tableFilled_iff {t : ConsistTable} {n : Nat} :
    tableFilled t n = true ↔ n ≤ 32 ∧ ∀ p, 1 ≤ p → p ≤ n → recordAt t p ≠ none := by
  obtain ⟨l, hl⟩ := t
  unfold tableFilled maxPosition
  dsimp only
  rw [Bool.and_eq_true, decide_eq_true_eq, and_comm]
  refine and_congr_right fun hn => ?_
  rw [List.all_eq_true]
  constructor
  · intro h p hp1 hpn hr
    rw [recordAt_eq _ hp1] at hr
    change (l[p - 1]?).getD none = none at hr
    rw [List.getElem?_eq_getElem (by omega), Option.getD_some] at hr
    have := h l[p - 1] (List.mem_take_iff_getElem.2 ⟨p - 1, by omega, rfl⟩)
    rw [hr] at this; cases this
  · intro h x hx
    obtain ⟨i, hi, rfl⟩ := List.mem_take_iff_getElem.1 hx
    have := h (i + 1) (by omega) (by omega)
    rw [recordAt_eq _ (by omega), Nat.add_sub_cancel] at this
    change (l[i]?).getD none ≠ none at this
    rw [List.getElem?_eq_getElem (by omega), Option.getD_some] at this
    exact Option.isSome_iff_ne_none.2 this

theorem confirmAgrees_iff {d : ConfirmData} {s : State} : confirmAgrees d s = true ↔
    1 ≤ d.length.toNat ∧ d.length.toNat ≤ 32 ∧ s.consist.position ≤ d.length.toNat ∧
      (∀ p, 1 ≤ p → p ≤ d.length.toNat → recordAt s.consist.table p ≠ none) ∧
      consistCheck s.consist.table d.length.toNat = d.check := by
  unfold confirmAgrees maxPosition
  simp only [Bool.and_eq_true, decide_eq_true_eq, tableFilled_iff, beq_iff_eq]
  tauto

/-! ### A CONFIRM at the consist unit -/

/-- The node placed by a CONFIRM (R64). -/
def placedAs (d : ConfirmData) (s : State) : State :=
  startLeadLoss (enterPlaced { s with consist := { s.consist with
    table := s.consist.table.keep d.length.toNat none, length := d.length.toNat, check := d.check } })

section takeConfirm

variable {d : ConfirmData} {s : State}

theorem takeConfirm_agrees (hp : s.consist.state = .placing) (ha : confirmAgrees d s = true) :
    takeConfirm d s = (d, placedAs d s) := by
  rw [takeConfirm, if_pos hp, if_pos ha]; rfl

theorem takeConfirm_disagrees (hp : s.consist.state = .placing) (ha : confirmAgrees d s = false) :
    takeConfirm d s = ({ d with mismatch := firstField d.mismatch true s.sourceByte }, startPlacing s) := by
  rw [takeConfirm, if_pos hp, if_neg (by rw [ha]; decide)]

theorem takeConfirm_of_not_placing (hp : s.consist.state ≠ .placing) : takeConfirm d s = (d, s) := by
  rw [takeConfirm, if_neg hp]

end takeConfirm

theorem actConfirm_of {f : Frame} {s v : State} {d : ConfirmData}
    (h : takeConfirm (ConfirmData.ofPayload f.payload) s = (d, v)) : actConfirm f s = ({ f with payload := d.payload }, v) := by
  rw [actConfirm, h]

/-! ### The command -/

/-- A CONFIRM at a node with a position: what the consist unit makes of it, and the frame sent on or back (R27, R31). -/
theorem exec_confirm {e : End} {f : LineFrame} {s v : State} {d : ConfirmData}
    (h : Heard (.line e) (frameOf f .confirm []) s) (hp : s.holdsPosition = true) (he : s.consist.leadEnd = some e)
    (hrole : s.lead.role = false) (hacc : acceptedOnEnd (frameOf f .confirm []) = true)
    (hl : (frameOf f .confirm []).leadward = false) (hroom : s.roomFor (.line e) 1) (hroom' : s.roomFor (.line e.other) 1)
    (htake : ∀ c, takeConfirm (ConfirmData.ofPayload f.body) ((handSource f.src (heard (.line e) s)).withScratch c) =
      (d, v.withScratch c)) (hvu : KeepsUnits (handSource f.src (heard (.line e) s)) v) (hvp : v.holdsPosition = true)
    (hve : v.consist.leadEnd = some e) (hport : ∀ p, v.port p = (heard (.line e) s).port p) :
    exec (.confirm (.line e) f) s =
      .next (swept e { frameOf f .confirm [] with payload := d.payload } (s.rateAt (.line e)) v) :=
  exec_sweep (act := actConfirm) rfl h hp hacc (by simp [frameOf]) hl he hrole hroom hroom' (fun _ _ => rfl)
    (fun c => actConfirm_of (htake c)) hvu hvp hve hport

theorem confirm_length {e : End} {f : LineFrame} {s : State} (h : Heard (.line e) (frameOf f .confirm []) s) :
    f.body.length = 4 := by
  obtain ⟨-, -, -, hl, -⟩ := h
  simpa [lengthGood, allowedLength, frameOf] using hl

/-- Settles O27: a CONFIRM that agrees, one that does not, and one at a node that is placed already. -/
theorem confirmPlacesNode : Obligations.ConfirmPlacesNode := by
  refine ⟨fun e f s n h hal hpl he hrole hacc hl hN h1 h32 hp1 hpn hfull hcheck hroom hroom' => ?_,
    fun e f s p h hal hpl he hrole hacc hl hpos h1 h32 hroom hroom' hdis => ?_,
    fun e f s h hal hps h32 he hrole hacc hl hroom hroom' => ?_⟩
  · subst hN
    set d := ConfirmData.ofPayload f.body with hd
    set u := heard (.line e) s with hu
    have hsrc : handSource f.src u = u := handSource_of_placing (by rw [hu, heard_consist_of_alive hal, hpl])
    have hagree : confirmAgrees d u = true := by
      rw [confirmAgrees_iff, hu, heard_consist_of_alive hal]
      exact ⟨h1, h32, hpn, hfull, hcheck⟩
    have hport (p : Port) : (placedAs d u).port p = u.port p := by rcases p with (_ | _) | _ <;> rfl
    have hexec := exec_confirm (v := placedAs d u) (d := d) h (holdsPosition_of_placing hpl) he hrole hacc hl hroom
      hroom' (fun c => by
        rw [← hu, hsrc]
        exact takeConfirm_agrees (s := u.withScratch c) (by rw [withScratch_consist, hu, heard_consist_of_alive hal, hpl])
          hagree)
      (by rw [← hu, hsrc]; exact ⟨rfl, rfl, rfl, rfl, rfl⟩) rfl ((heard_leadEnd _ s).trans he) hport
    obtain ⟨hhop, hgood, hon, hback⟩ := swept_goesOn (f := { frameOf f .confirm [] with payload := d.payload }) hport
      (by rw [← heard_alive_other e s]; cases e <;> rfl) (heard_position _ s) (by omega) hl
    refine ⟨_, _, hexec, ?_, ?_, ?_, ?_, ?_, ?_, fun p hp1 hp2 => ?_, ?_, ?_, sweptFrame_kind _ _ _,
      (sweptFrame_payload _ _ _).trans (confirmData_payload (confirm_length h)), hhop, hgood, hon, hback, ?_⟩ <;>
      rw [swept_lines]
    · rfl
    · rfl
    · rfl
    · rfl
    · exact present_raise .placed _
    · show some (u.now + u.itemN Item.leadLoss) = _
      simp [hu, State.itemN, State.item]
    · rw [← heard_table (.line e) s]; exact recordAt_keep _ hp1 hp2
    · exact heard_position _ s
    · exact (heard_leadEnd _ s).trans he
    · exact congrArg (fun x : State => { x with events := s.events, consist := s.consist }) (heard_of_alive hal)
  · set u := heard (.line e) s with hu
    have hupos : u.consist.position = p.toNat := by rw [hu, heard_position, hpos]
    set d : ConfirmData := { ConfirmData.ofPayload f.body with
      mismatch := firstField (byteAt f.body 3) true u.sourceByte } with hd
    have hupl : u.consist.state = .placing := by rw [hu, heard_consist_of_alive hal, hpl]
    have hsrc : handSource f.src u = u := handSource_of_placing hupl
    have hagree : confirmAgrees (ConfirmData.ofPayload f.body) u = false := by
      rw [← Bool.not_eq_true, confirmAgrees_iff, hu, heard_consist_of_alive hal, hpos]
      rintro ⟨h1', h32', hp', hfull, hcheck⟩
      rcases hdis with hdis | hdis | hdis | ⟨q, hq1, hqn, hq⟩ | hdis
      · exact absurd h1' (by rw [show (ConfirmData.ofPayload f.body).length = 0 from hdis]; decide)
      · exact absurd h32' (Nat.not_le.2 hdis)
      · exact absurd hp' (Nat.not_le.2 hdis)
      · exact hfull q hq1 hqn hq
      · exact hdis hcheck
    have hport (q : Port) : (startPlacing u).port q = u.port q := by rcases q with (_ | _) | _ <;> rfl
    have hexec := exec_confirm (v := startPlacing u) (d := d) h (holdsPosition_of_placing hpl) he hrole hacc hl hroom
      hroom' (fun c => by rw [← hu, hsrc]; exact takeConfirm_disagrees (s := u.withScratch c) hupl hagree)
      (by rw [← hu, hsrc]; exact ⟨rfl, rfl, rfl, rfl, rfl⟩) ((heard_holdsPosition _ s).trans (holdsPosition_of_placing hpl))
      ((heard_leadEnd _ s).trans he) hport
    refine ⟨_, _, hexec, ?_, sweptFrame_kind _ _ _, ?_, swept_goesOn hport
      (by rw [← heard_alive_other e s]; cases e <;> rfl) (heard_position _ s) (by omega) hl, ?_⟩
    · rw [swept_lines, ← heard_consist_of_alive hal]
      show { u.consist with placing := some (u.now + 3 * u.itemN Item.callWindow) } = _
      simp [hu, State.itemN, State.item]
    · rw [sweptFrame_payload, hd, confirmData_payload_mismatch (confirm_length h)]
      simp [firstField, State.sourceByte, hupos, byteOf]
    · rw [swept_lines]
      exact congrArg (fun x : State => { x with consist := s.consist }) (heard_of_alive hal)
  · set u := handSource f.src (heard (.line e) s) with hu
    have hust : u.consist.state ≠ .placing := by
      rw [hu, handSource_eq, heard_consist_of_alive hal]; exact not_placing_of_placedOrStale hps
    have hp := holdsPosition_of_placedOrStale hps
    have hport (q : Port) : u.port q = (heard (.line e) s).port q := port_handSource _ _ q
    have hexec := exec_confirm (v := u) (d := ConfirmData.ofPayload f.body) h hp he hrole hacc hl hroom hroom'
      (fun c => takeConfirm_of_not_placing (s := u.withScratch c) hust) ⟨rfl, rfl, rfl, rfl, rfl⟩
      (by rw [hu, handSource_holdsPosition, heard_holdsPosition, hp])
      (by rw [hu, handSource_leadEnd, heard_leadEnd, he]) hport
    refine ⟨_, _, hexec, ?_, sweptFrame_kind _ _ _,
      (sweptFrame_payload _ _ _).trans (confirmData_payload (confirm_length h)),
      swept_goesOn hport (by simp [hu]) (by simp [hu]) (by omega) hl, ?_⟩
    · rw [swept_lines, hu]
      exact handSource_consist_of_placed hal hps hrole
    · rw [swept_lines, hu, handSource_eq]
      exact congrArg (fun x : State => { x with consist := s.consist }) (heard_of_alive hal)

end Sys2Proof.Machine
end

section
/-! The statement about a SURVEY in flight (R80, R81). -/

namespace Sys2Proof.Machine

/-! ### What the door and notice fields of a survey read -/

theorem doorsSecured_congr {s t : State} (h : t.doors = s.doors) : t.doorsSecured = s.doorsSecured := by
  unfold State.doorsSecured State.secured State.channel; rw [h]

theorem doorFault_congr {s t : State} (h : t.doors = s.doors) (c : Side) : t.doorFault c = s.doorFault c := by
  unfold State.doorFault State.channel; rw [h]

theorem notices_congr {s t : State} (h : t.items = s.items) : t.notices = s.notices := by
  unfold State.notices State.item; rw [h]

/-- A first field, in the words of R130 to R133. -/
theorem firstField_eq {c : Bool} {P : Prop} [Decidable P] (b p : Byte) (h : c = true ↔ P) :
    firstField b c p = if b = 0 ∧ P then p else b :=
  if_congr (and_congr_right fun _ => h) rfl rfl

/-- The payload of a survey byte by byte (R19). -/
theorem surveyData_payload (d : SurveyData) : d.payload =
    [d.number, d.length, loByte d.check, hiByte d.check, d.endPosition, d.flags, d.firstOpen, d.firstFault,
      d.firstStale, d.firstBreak, d.firstEvent] := rfl

/-- A survey's number, N and check are sent as received. -/
theorem surveyData_head {l : List Byte} (h : l.length = 11) :
    [byteAt l 0, byteAt l 1, loByte (wordAt l 2), hiByte (wordAt l 2)] = l.take 4 := by
  have hw : [loByte (wordAt l 2), hiByte (wordAt l 2)] = [byteAt l 2, byteAt l 3] := wordBytes_append _ _
  rw [List.cons.injEq, List.cons.injEq] at hw
  rw [hw.1, hw.2.1]
  match l, h with
  | [_, _, _, _, _, _, _, _, _, _, _], _ => rfl

/-! ### A SURVEY at the consist unit -/

/-- The node once it has tested a survey (R80). -/
def surveyed (hop : Nat) (d : SurveyData) (s : State) : State := if surveyAgrees hop d s then s else enterStale s

section surveyed

variable (hop : Nat) (d : SurveyData) (s : State)

theorem enterStale_eq : enterStale s = { s with
    events := (enterStale s).events, consist := { s.consist with state := (enterStale s).consist.state } } := by
  rcases enterStale_cases s with ⟨-, e⟩ | ⟨-, e⟩ <;> rw [e]
  rfl

theorem surveyed_eq : surveyed hop d s = { s with
    events := (surveyed hop d s).events, consist := { s.consist with state := (surveyed hop d s).consist.state } } := by
  unfold surveyed; split
  · rfl
  · exact enterStale_eq s

theorem surveyed_state (h : s.placedOrStale = true) : (surveyed hop d s).consist.state =
    if surveyAgrees hop d s = true then s.consist.state else .stale := by
  unfold surveyed; split
  · rfl
  · rw [enterStale_state]
    split
    · rfl
    · next hn => cases hs : s.consist.state <;> simp_all [State.placedOrStale]

@[simp] theorem surveyed_withScratch (c : Scratch) :
    surveyed hop d (s.withScratch c) = (surveyed hop d s).withScratch c := withScratch_ite rfl (enterStale_withScratch s c)

theorem surveyed_keepsUnits : KeepsUnits s (surveyed hop d s) := by
  rw [surveyed_eq]; exact ⟨rfl, rfl, rfl, rfl, rfl⟩

@[simp] theorem port_surveyed (p : Port) : (surveyed hop d s).port p = s.port p := by
  rw [surveyed_eq]; rcases p with (_ | _) | _ <;> rfl

@[simp] theorem surveyed_alive (e : End) : (surveyed hop d s).alive e = s.alive e := by
  rw [surveyed_eq]; cases e <;> rfl

/-- A SURVEY tested, and the findings of the node as the test has left it, but for the event set (R81; log 37). -/
theorem takeSurvey_eq : takeSurvey hop d s =
    ({ surveyFindings s.sourceByte s.noticed (surveyed hop d s) d with endPosition := s.sourceByte },
      surveyed hop d s) := by
  have hsrc : (surveyed hop d s).sourceByte = s.sourceByte := by rw [surveyed_eq]; rfl
  rw [← hsrc]; rfl

end surveyed

@[simp] theorem surveyFindings_withScratch (p : Byte) (noticed : Bool) (s : State) (c : Scratch) (d : SurveyData) :
    surveyFindings p noticed (s.withScratch c) d = surveyFindings p noticed s d := rfl

/-- A SURVEY at a node in PLACED or STALE (R27). -/
theorem actSurvey_eq (f : Frame) {s : State} (h : s.placedOrStale = true) (c : Scratch) : actSurvey f (s.withScratch c) =
    ({ f with payload := SurveyData.payload { surveyFindings s.sourceByte s.noticed
        (surveyed f.hop (SurveyData.ofPayload f.payload) s) (SurveyData.ofPayload f.payload) with
          endPosition := s.sourceByte } },
      (surveyed f.hop (SurveyData.ofPayload f.payload) s).withScratch c) := by
  rw [actSurvey, if_pos (by exact h), takeSurvey_eq, surveyed_withScratch, surveyFindings_withScratch]
  rfl

/-- Settles O30: the test of R80 and the fields that the node writes. -/
theorem surveyIsWritten : Obligations.SurveyIsWritten := by
  intro e f s p h hal hps hpos h1 h32 he hrole hacc hl hroom hroom'
  have hp := holdsPosition_of_placedOrStale hps
  set u := handSource f.src (heard (.line e) s) with hu
  set d := SurveyData.ofPayload f.body with hd
  set v := surveyed (frameOf f .survey []).hop d u with hv
  set d' : SurveyData := { surveyFindings p u.noticed v d with endPosition := p } with hd'
  have hup : u.placedOrStale = true := by
    rw [hu, handSource_eq, State.placedOrStale, heard_consist_of_alive hal]; exact hps
  have hsource : u.sourceByte = p := by
    rw [State.sourceByte, hu, handSource_position, heard_position, hpos]; simp [byteOf]
  have hport (q : Port) : v.port q = (heard (.line e) s).port q := by rw [hv, port_surveyed, hu, port_handSource]
  have hact (c : Scratch) : actSurvey (frameOf f .survey []) (u.withScratch c) =
      ({ frameOf f .survey [] with payload := d'.payload }, v.withScratch c) := by
    rw [actSurvey_eq _ hup, hd', ← hsource]
    rfl
  have hexec := exec_sweep (i := .survey (.line e) f) (v := v) (act := actSurvey) rfl h hp hacc (by simp [frameOf]) hl
    he hrole hroom hroom' (fun _ _ => rfl) hact (surveyed_keepsUnits _ _ _)
    (by rw [State.holdsPosition, hv, surveyed_state _ _ _ hup]; split
        · exact holdsPosition_of_placedOrStale hup
        · rfl)
    (by rw [hv, surveyed_eq, hu, handSource_eq]; exact (heard_leadEnd _ s).trans he) hport
  obtain ⟨hhop, hgood, hon, hback⟩ := swept_goesOn (f := { frameOf f .survey [] with payload := d'.payload }) hport
    (by simp [hv, hu]) (by rw [hv, surveyed_eq, hu]; simp) (by omega) hl
  have hlen : f.body.length = 11 := by simpa [lengthGood, allowedLength, frameOf] using h.2.2.2.1
  have hdoors : v.doors = s.doors := by rw [hv, surveyed_eq, hu, handSource_eq]; exact heard_doors _ s
  have hitems : u.items = s.items := by rw [hu, handSource_eq]; exact heard_items _ s
  have hevents : u.events = s.events := by rw [hu, handSource_events, heard_events_of_alive hal]
  have hstate : v.consist.state = if (frameOf f .survey []).hop + 1 = p.toNat ∧
      (byteAt f.body 1).toNat = s.consist.length ∧ wordAt f.body 2 = s.consist.check then s.consist.state
      else .stale := by
    rw [hv, surveyed_state _ _ _ hup]
    refine if_congr ?_ (by rw [hu, handSource_eq, heard_consist_of_alive hal]) rfl
    rw [surveyAgrees, hu, handSource_eq, heard_consist_of_alive hal, hpos]
    simp [hd, SurveyData.ofPayload, and_assoc]
  have hpay := (sweptFrame_payload (s.alive e.other) { frameOf f .survey [] with payload := d'.payload }
    s.consist.position).trans (surveyData_payload d')
  refine ⟨_, _, hexec, ?_, ?_, sweptFrame_kind _ _ _, hhop.trans hpos, ?_, sweptFrame_src _ _ _, hgood, ?_, ?_, ?_, ?_,
    ?_, ?_, ?_, ?_, hon, hback, ?_⟩
  · rw [swept_lines]; exact hstate
  · rw [swept_lines, hv, surveyed_eq]
    exact congrArg Consist.leadLoss (handSource_consist_of_placed (src := f.src) hal hps hrole)
  · rw [sweptFrame_dest]
    simp only [acceptedOnEnd, frameOf, Bool.and_eq_true] at hacc
    exact of_decide_eq_true hacc.2
  · rw [hpay]; exact surveyData_head hlen
  · rw [hpay]; rfl
  · rw [hpay, ← doorsSecured_congr hdoors]; rfl
  · rw [hpay, ← doorsSecured_congr hdoors]
    exact firstField_eq _ _ (by rw [Bool.not_eq_true'])
  · rw [hpay, ← doorFault_congr hdoors, ← doorFault_congr hdoors]
    exact firstField_eq _ _ Bool.or_eq_true_iff
  · rw [hpay, swept_lines]
    exact firstField_eq _ _ beq_iff_eq
  · have hcomp : v.anyComparison .segmentFault = s.anyComparison .segmentFault := by
      rw [State.anyComparison, hv, surveyed_eq, hu, handSource_eq, heard_consist_of_alive hal]; rfl
    rw [hpay]
    exact firstField_eq _ _ (by rw [hcomp, State.anyComparison, Bool.or_eq_true, beq_iff_eq, beq_iff_eq])
  · rw [hpay]
    exact firstField_eq _ _ (by rw [State.noticed, hevents, notices_congr hitems, decide_eq_true_eq])
  · rw [swept_lines, hv, surveyed_eq, hu, handSource_eq]
    exact congrArg (fun x : State => { x with events := s.events, consist := { x.consist with
      state := s.consist.state, leadLoss := s.consist.leadLoss } }) (heard_of_alive hal)

end Sys2Proof.Machine
end

section
/-! The end of an event that owes a LEAD STATUS, and the statement about a failed call attempt (R52, R57, R59). -/

namespace Sys2Proof.Machine

/-- A port that hears a frame is alive (R11). -/
@[simp] theorem heard_alive_self (e : End) (s : State) : (heard (.line e) s).alive e = true := by
  rw [State.alive, heard_endUnit]; rfl

/-! ### A LEAD STATUS at the end of an event (R59) -/

/-- A state with the units of a state at rest is at rest. -/
theorem KeepsUnits.atRest {s t : State} (h : KeepsUnits s t) (hr : s.atRest) : t.atRest := by
  obtain ⟨hd, hh, hi, hm, hs⟩ := h
  obtain ⟨h0, h1, h2, h3⟩ := hr
  have ht := teff_congr hd hh hi hm
  exact ⟨hs.trans h0, by rw [hd, h1, toneDemand_congr hd], by rw [hh, ht]; exact h2, by rw [hh, ht]; exact h3⟩

theorem KeepsUnits.teff {s t : State} (h : KeepsUnits s t) : t.teff = s.teff := by
  obtain ⟨hd, hh, hi, hm, -⟩ := h
  exact teff_congr hd hh hi hm

/-- The end of an event that has left doors, heating, inputs and items alone: the LEAD STATUS owed, and no more. -/
theorem finish_settled {s t : State} (hr : s.atRest) (hk : KeepsUnits s (t.withScratch s.scratch))
    (ht : t.scratch.teff = s.teff) : finish t = (flushStatus t).withScratch Scratch.rest := by
  obtain ⟨-, h1, h2, h3⟩ := hr
  obtain ⟨hd, hh, hi, hm, -⟩ := hk
  have hte : t.teff = s.teff := teff_congr hd hh hi hm
  unfold finish
  rw [settleTone_of (s := t) (by rw [toneDemand_congr (t := t) hd, ← h1]; exact congrArg (·.tone.isSome) hd),
    settleHeat_of (s := t) (by rw [hte]; exact (congrArg Heat.level hh).trans_le h2)
      (fun hra => by
        rw [hte]
        exact (congrArg Heat.level hh).trans_lt (h3 (by rw [← hra]; exact congrArg (·.raise.isSome) hh.symm)))
      (by rw [hte, ht])]
  rfl

/-- With no miss before it and room in the cab port's queue, the LEAD STATUS owed joins that queue. -/
theorem flushStatus_room {s : State} (hd : s.scratch.statusDue = true) (hm : s.scratch.missed = none)
    (hroom : s.roomFor .cab 1) : flushStatus s = s.enqueue .cab (queued (leadStatusFrame s)) := by
  rw [flushStatus_due hd, flushMiss_none hm, offer_room _ _ hroom]; rfl

/-- So sent, it shows the node as the event leaves it. -/
theorem statusSent_enqueue {u v : State} (c : Scratch) (h : v.puC = u.puC) :
    StatusSent ((v.enqueue .cab (queued (leadStatusFrame v))).withScratch c) u
      ((v.enqueue .cab (queued (leadStatusFrame v))).withScratch c) := by
  refine ⟨leadStatusFrame v, ?_, rfl, rfl, mkFrame_leadward .., mkFrame_hop .., rfl, rfl, mkFrame_checkGood ..⟩
  exact (queues_enqueue v .cab _).of_port h

/-! ### A call attempt fails (R52) -/

/-- The state at the moment `clock`, its call window stopped. -/
def windowStopped (clock : Nat) (s : State) : State :=
  { s with now := clock, lead := { s.lead with window := none } }

@[simp] theorem port_windowStopped (clock : Nat) (s : State) (p : Port) : (windowStopped clock s).port p = s.port p := by
  rcases p with (_ | _) | _ <;> rfl

@[simp] theorem windowStopped_alive (clock : Nat) (s : State) (e : End) :
    (windowStopped clock s).alive e = s.alive e := by cases e <;> rfl

/-- The next attempt counted, the table cut to the lead's own record, and the window running (R52). -/
def attemptCounted (s : State) : State :=
  startWindow { s with
    lead := { s.lead with attempt := s.lead.attempt + 1 }
    consist := { s.consist with table := s.consist.table.keep 1 none } }

@[simp] theorem port_attemptCounted (s : State) (p : Port) : (attemptCounted s).port p = s.port p := by
  rcases p with (_ | _) | _ <;> rfl

@[simp] theorem attemptCounted_alive (s : State) (e : End) : (attemptCounted s).alive e = s.alive e := by
  cases e <;> rfl

/-- The CALL of an attempt (R48, R52). -/
def callFrame (attempt : Nat) : Frame := leadFrame .call [byteOf attempt]

section failAttempt

variable {e : End} {r : Reason} {s : State}

theorem failAttempt_again (h3 : s.lead.attempt < 3) (he : s.consist.leadEnd = some e.other) (hal : s.alive e = true)
    (hroom : s.roomFor (.line e) 1) :
    failAttempt r s = (attemptCounted s).enqueue (.line e) (queued (callFrame (s.lead.attempt + 1))) := by
  have hout : (attemptCounted s).outwardEnd = some e := by
    rw [outwardEnd_of (s := attemptCounted s) (e := e.other) he, End.other_other]
  have hpresent : (attemptCounted s).outwardPresent = true := by
    rw [State.outwardPresent, hout]; simp [hal]
  rw [failAttempt, if_pos h3]
  show (if (attemptCounted s).outwardPresent = true then sendCall (s.lead.attempt + 1) (attemptCounted s) else _) = _
  rw [if_pos hpresent, sendCall, hout, offerEnd_room _ _ (by unfold State.roomFor at *; rwa [port_attemptCounted])]
  rfl

/-- The first or second attempt that fails is followed by the next (R52). -/
theorem failAttempt_callsAgain (clock : Nat) (hs : s.atRest) (h3 : s.lead.attempt < 3)
    (he : s.consist.leadEnd = some e.other) (hal : s.alive e = true) (hroom : s.roomFor (.line e) 1) :
    CallsAgain e clock s (finish (failAttempt r ((windowStopped clock s).withScratch ⟨s.teff, false, none⟩))) := by
  set w := (windowStopped clock s).withScratch ⟨s.teff, false, none⟩ with hw
  have hwport (p : Port) : w.port p = s.port p := by simp [hw]
  have hfinish : finish (failAttempt r w) =
      ((attemptCounted w).enqueue (.line e) (queued (callFrame (s.lead.attempt + 1)))).withScratch Scratch.rest := by
    rw [failAttempt_again (s := w) (e := e) h3 he (by simpa [hw] using hal) (by unfold State.roomFor at *; rwa [hwport]),
      finish_settled hs ?_ (by rw [enqueue_scratch]; rfl), flushStatus_of (by rw [enqueue_scratch]; rfl)]
    · rfl
    · rw [← enqueue_withScratch]
      exact (show KeepsUnits s ((attemptCounted w).withScratch s.scratch) from ⟨rfl, rfl, rfl, rfl, rfl⟩).trans
        (enqueue_keepsUnits _ _ _)
  have hport (p : Port) : (attemptCounted w).port p = s.port p := by rw [port_attemptCounted, hwport]
  rw [hfinish]
  refine ⟨?_, ?_, fun p hp2 hp32 => ?_, ?_, ⟨callFrame (s.lead.attempt + 1), ?_, rfl, rfl, mkFrame_hop .., rfl, rfl,
    mkFrame_leadward .., mkFrame_checkGood ..⟩, fun q hq => ?_, ?_⟩
  · rw [withScratch_lead, enqueue_lead]; rfl
  · rw [withScratch_now, enqueue_now]; rfl
  · rw [withScratch_consist, enqueue_consist]
    exact (recordAt_keep s.consist.table (by omega) hp32).trans (if_neg (by omega))
  · rw [withScratch_consist, enqueue_consist]
    exact (recordAt_keep s.consist.table le_rfl (by decide)).trans (if_pos le_rfl)
  · rw [Queues, port_withScratch, ← hport]; exact queues_enqueue _ _ _
  · rw [port_withScratch, port_enqueue_ne _ _ _ hq, hport]
  · have h0 := hs.1
    cases e <;> · rw [← h0]; rfl

/-- The third that fails ends the roll call, the node left in PLACING (R52, R57, R65). -/
theorem failAttempt_failsPlacing (clock : Nat) (hs : s.atRest) (h3 : 3 ≤ s.lead.attempt)
    (hcalling : s.lead.state = .calling) (hpl : s.consist.state = .placing) (hroom : s.roomFor .cab 1) :
    FailsPlacing r clock s (finish (failAttempt r ((windowStopped clock s).withScratch ⟨s.teff, false, none⟩))) := by
  set w := (windowStopped clock s).withScratch ⟨s.teff, false, none⟩ with hw
  set v := startPlacing (setLead .failed r { w with lead := { w.lead with window := none, sendList := [] } }) with hv
  have hfail : failAttempt r w = v := by
    rw [failAttempt, if_neg (show ¬ w.lead.attempt < 3 from Nat.not_lt.2 h3), failLead]
    exact if_pos hpl
  have hdue : v.scratch.statusDue = true := by
    show (false || LeadState.failed != s.lead.state || _) = true
    rw [hcalling]; rfl
  have hfinish : finish (failAttempt r w) = (v.enqueue .cab (queued (leadStatusFrame v))).withScratch Scratch.rest := by
    rw [hfail, finish_settled (s := s) (t := v) hs ⟨rfl, rfl, rfl, rfl, rfl⟩ rfl, flushStatus_room hdue rfl hroom]
  rw [hfinish]
  exact ⟨rfl, rfl, rfl, statusSent_enqueue _ rfl, fun e => by cases e <;> rfl, by rw [← hs.1]; rfl⟩

end failAttempt

/-! ### What makes an attempt fail (R52) -/

theorem windowExpired_calling {s : State} (h : s.lead.state = .calling) :
    windowExpired s = failAttempt .noTail { s with lead := { s.lead with window := none } } := by
  simp [windowExpired, h]

theorem exec_windowExpiry {s : State} {d : Nat} (hs : s.supplyLow = false) (hd : s.lead.window = some d)
    (hst : s.lead.state = .calling) : exec .callWindowExpiry s = .next (finish (failAttempt .noTail
      ((windowStopped (max s.now d) s).withScratch ⟨s.teff, false, none⟩))) := by
  show event (onExpiry s.lead.window windowExpired) s = _
  rw [event_of _ hs, hd, onExpiry_some, windowExpired_calling (s := (begin s).reach d) hst]
  rfl

/-- A TAIL with both flags clear that does not name a filled run of places fails the attempt (R51, R52). -/
theorem takeTail_gaps {d : TailData} {s : State} (hst : s.lead.state = .calling) (hc : d.conflict = false)
    (ho : d.overflow = false) (hgap : ¬ (2 ≤ d.last.toNat ∧ tableFilled s.consist.table d.last.toNat = true)) :
    takeTail d s = failAttempt .gaps { s with lead := { s.lead with window := none } } := by
  simp [takeTail, hst, hc, ho, hgap]

/-- Settles O24: both ways an attempt fails, and what follows the first two and the third. -/
theorem failedAttemptCallsAgain : Obligations.FailedAttemptCallsAgain := by
  refine ⟨fun s d e hs hr hd hst he => ⟨fun h3 hal hroom => ?_, fun h3 hpl hroom => ?_⟩,
    fun e f s h hal hst hc ho hgap => ?_⟩
  · exact ⟨_, exec_windowExpiry hs hd hst, failAttempt_callsAgain _ hr h3 he hal hroom⟩
  · exact ⟨_, exec_windowExpiry hs hd hst, failAttempt_failsPlacing _ hr h3 hst hpl hroom⟩
  · obtain ⟨hh, hacc, hpl, h1, hrole, he⟩ := h
    set u := heard (.line e) s with hu
    have hk : KeepsUnits s u := heard_keepsUnits _ s
    have hl : (frameOf f .tail []).leadward = true := by
      simp only [acceptedOnEnd, frameOf, Bool.and_eq_true] at hacc
      exact hacc.1.1
    have hnot : ¬ (2 ≤ (byteAt f.body 0).toNat ∧ tableFilled u.consist.table (byteAt f.body 0).toNat = true) := by
      rw [hu, heard_table, tableFilled_iff]
      rintro ⟨h2, h32, hfull⟩
      rcases hgap with hgap | hgap | ⟨p, hp1, hp2, hp⟩
      · omega
      · omega
      · exact hfull p hp1 hp2 hp
    have htail (c : Scratch) : relay (.line e) (frameOf f .tail []) (s.rateAt (.line e)) (u.withScratch c) =
        takeTail (TailData.ofPayload f.body) (u.withScratch c) :=
      relay_consumed (s := u.withScratch c) ((heard_holdsPosition _ s).trans (holdsPosition_of_placing hpl))
        ((heard_position _ s).trans h1) ((congrArg Lead.role (heard_lead _ s)).trans hrole)
        ((heard_leadEnd _ s).trans he) hacc (by simp [frameOf]) hl
    have hgaps (c : Scratch) : takeTail (TailData.ofPayload f.body) (u.withScratch c) =
        failAttempt .gaps ((windowStopped u.now u).withScratch c) :=
      takeTail_gaps (s := u.withScratch c) ((congrArg Lead.state (heard_lead _ s)).trans hst) hc ho hnot
    have hexec : exec (.tail (.line e) f) s = .next (finish (failAttempt .gaps
        ((windowStopped s.now u).withScratch ⟨u.teff, false, none⟩))) := by
      rw [exec_heard rfl hh (kind_ne_idle_of_accepted hacc), htail, hgaps, hk.teff, heard_now]
    have hlead : u.lead = s.lead := heard_lead _ s
    refine ⟨fun h3 hroom => ⟨_, hexec, ?_⟩, fun h3 hroom => ⟨_, hexec, ?_⟩⟩
    · exact failAttempt_callsAgain _ (hk.atRest hh.2.1) (by rwa [hlead]) ((heard_leadEnd _ s).trans he)
        (heard_alive_self e s) ((heard_roomFor _ _ s 1).2 hroom)
    · exact failAttempt_failsPlacing _ (hk.atRest hh.2.1) (by rwa [hlead]) (by rwa [hlead])
        (by rw [hu, heard_consist_of_alive hal, hpl]) ((heard_roomFor _ _ s 1).2 hroom)

end Sys2Proof.Machine
end

section
/-! The statement about the survey period: a miss counted, the next survey built, and a lead alone (R78, R79, R82). -/

namespace Sys2Proof.Machine

/-! ### A LEAD STATUS, whatever room the cab port has -/

/-- A LEAD STATUS sent on its own touches the cab port and the event set alone. -/
theorem flushStatus_eq {s : State} (hm : s.scratch.missed = none) :
    flushStatus s = { s with puC := (flushStatus s).puC, events := (flushStatus s).events } := by
  unfold flushStatus; split
  · rw [flushMiss_none hm]
    rcases offerQueued_cases .cab ⟨leadStatusFrame s, defaultRate, false⟩ s with ⟨-, h⟩ | ⟨-, h⟩ <;>
      · rw [offer, h]; rfl
  · rfl

/-- What was present stays so. -/
theorem flushStatus_present {s : State} {ev : Event} (hm : s.scratch.missed = none) (h : s.present ev = true) :
    (flushStatus s).present ev = true := by
  unfold flushStatus; split
  · rw [flushMiss_none hm]
    rcases offerQueued_cases .cab ⟨leadStatusFrame s, defaultRate, false⟩ s with ⟨-, h'⟩ | ⟨-, h'⟩ <;> rw [offer, h']
    · rw [present_setPort, h]
    · exact present_raise_of _ _ _ (by rw [present_setPort, h])
  · exact h

/-- With room, or with none owed, no event is raised. -/
theorem flushStatus_events {s : State} (hm : s.scratch.missed = none) (hroom : s.roomFor .cab 1) :
    (flushStatus s).events = s.events := by
  cases hd : s.scratch.statusDue with
  | true => rw [flushStatus_room hd hm hroom, enqueue_events]
  | false => rw [flushStatus_of hd]

/-! ### Auto-recall (R82, R84) -/

theorem recalls_of_item {s : State} (h : s.item Item.autoRecall ≠ 1) : s.recalls = false := by
  unfold State.recalls State.itemOn; rw [decide_eq_false h, Bool.false_and]

/-! ### The period expires (R78, R82) -/

/-- A miss changes the survey state, the event set and the node consist state, and owes a LEAD STATUS (R82). -/
theorem countMiss_eq (s : State) : countMiss s = { s with
    survey := { s.survey with misses := min 3 (s.survey.misses + 1), outstanding := none }
    scratch := { s.scratch with statusDue := true }
    events := (countMiss s).events
    consist := { s.consist with state := (countMiss s).consist.state } } := by
  unfold countMiss; dsimp only; split
  · rw [enterStale_eq]; rfl
  · rfl

/-- The third miss takes a PLACED node to STALE. -/
theorem countMiss_state (s : State) : (countMiss s).consist.state =
    if s.survey.misses = 2 ∧ s.consist.state = .placed then .stale else s.consist.state := by
  unfold countMiss; dsimp only
  by_cases h : s.survey.misses = 2
  · rw [if_pos h, raise_consist, enterStale_state]; simp [h]
  · rw [if_neg h, if_neg (fun hc => h hc.1)]; rfl

/-- It raises LEAD_LOST. -/
theorem countMiss_leadLost {s : State} (h : s.survey.misses = 2) : (countMiss s).present .leadLost = true := by
  unfold countMiss; dsimp only; rw [if_pos h]; exact present_raise _ _

/-- The outstanding survey settled: counted as a miss where there is one. -/
def missCounted (s : State) : State := if s.survey.outstanding.isSome = true then countMiss s else s

/-- The next survey numbered, and outstanding (R78). -/
def surveyNumbered (s : State) : State := { s with survey := { s.survey with
  number := s.survey.number + 1, outstanding := some (s.survey.number + 1) } }

theorem surveyPeriodExpired_sends {s : State} (h : s.survey.outstanding = none ∨ s.item Item.autoRecall ≠ 1) :
    surveyPeriodExpired s = sendSurvey (missCounted (startSurveyPeriod s)) := by
  unfold surveyPeriodExpired missCounted; dsimp only
  by_cases ho : (startSurveyPeriod s).survey.outstanding.isSome = true
  · rw [if_pos ho, if_pos ho, if_neg]
    have hr : (startSurveyPeriod s).recalls = false := by
      rcases h with h | h
      · rw [show (startSurveyPeriod s).survey.outstanding = none from h] at ho; cases ho
      · exact recalls_of_item h
    rw [State.missRecalls, hr, Bool.and_false]; decide
  · rw [if_neg ho, if_neg ho]

/-- The lead as it builds its next survey, the period timer having run out at `d` (R78). -/
def surveyReady (d : Nat) (s : State) : State :=
  surveyNumbered (missCounted (startSurveyPeriod ((begin s).reach d)))

section surveyReady

variable (d : Nat) (s : State)

/-- With no survey outstanding there is no miss to count. -/
theorem surveyReady_none (h : s.survey.outstanding = none) :
    surveyReady d s = surveyNumbered (startSurveyPeriod ((begin s).reach d)) := by
  have ho : ¬ (startSurveyPeriod ((begin s).reach d)).survey.outstanding.isSome = true := by
    show ¬ s.survey.outstanding.isSome = true
    rw [h]; decide
  rw [surveyReady, missCounted, if_neg ho]

/-- An outstanding one is counted as a miss (R78, R82). -/
theorem surveyReady_some (h : s.survey.outstanding.isSome = true) :
    surveyReady d s = surveyNumbered (countMiss (startSurveyPeriod ((begin s).reach d))) :=
  congrArg surveyNumbered (if_pos h)

theorem surveyReady_eq : surveyReady d s = { s with
    now := max s.now d
    survey := { s.survey with
      period := some (max s.now d + s.itemN Item.surveyPeriod)
      number := s.survey.number + 1
      outstanding := some (s.survey.number + 1)
      misses := if s.survey.outstanding.isSome = true then min 3 (s.survey.misses + 1) else s.survey.misses }
    scratch := ⟨s.teff, s.survey.outstanding.isSome, none⟩
    events := (surveyReady d s).events
    consist := { s.consist with state := (surveyReady d s).consist.state } } := by
  cases ho : s.survey.outstanding with
  | none => rw [surveyReady_none d s ho]; rfl
  | some n => rw [surveyReady_some d s (by rw [ho]; rfl), countMiss_eq]; rfl

theorem surveyReady_state : (surveyReady d s).consist.state =
    if s.survey.outstanding.isSome = true ∧ s.survey.misses = 2 ∧ s.consist.state = .placed then .stale
    else s.consist.state := by
  cases ho : s.survey.outstanding with
  | none => rw [surveyReady_none d s ho]; rfl
  | some n =>
    rw [surveyReady_some d s (by rw [ho]; rfl)]
    refine (countMiss_state _).trans (if_congr ?_ rfl rfl)
    exact (and_iff_right rfl).symm

theorem surveyReady_leadLost (ho : s.survey.outstanding.isSome = true) (hm : s.survey.misses = 2) :
    (surveyReady d s).present .leadLost = true := by
  rw [surveyReady_some d s ho]
  exact countMiss_leadLost (s := startSurveyPeriod _) hm

@[simp] theorem port_surveyReady (p : Port) : (surveyReady d s).port p = s.port p := by
  rw [surveyReady_eq]; rcases p with (_ | _) | _ <;> rfl

@[simp] theorem surveyReady_alive (e : End) : (surveyReady d s).alive e = s.alive e := by
  rw [surveyReady_eq]; cases e <;> rfl

theorem surveyReady_holdsPosition : (surveyReady d s).holdsPosition = s.holdsPosition := by
  unfold State.holdsPosition
  rw [surveyReady_state]
  split
  · next h => rw [h.2.2]; rfl
  · rfl

end surveyReady

/-! ### The survey built (R79) -/

/-- The survey byte by byte: its first fields say what the lead finds. -/
theorem builtSurvey_payload (s : State) : s.builtSurvey.payload =
    [s.survey.number, byteOf s.consist.length, loByte s.consist.check, hiByte s.consist.check, 1,
      if s.doorsSecured = true then 1 else 1 &&& 0xFE#8, firstField 0 (!s.doorsSecured) 1,
      firstField 0 (s.doorFault .a || s.doorFault .b) 1, firstField 0 (s.consist.state == .stale) 1,
      firstField 0 (s.anyComparison .segmentFault) 1, firstField 0 s.noticed 1] := rfl

/-- A first field that was 0. -/
theorem firstField_zero {c : Bool} {P : Prop} [Decidable P] (h : c = true ↔ P) :
    firstField 0 c 1 = if P then 1 else 0 := by
  rw [firstField_eq 0 1 h]; exact if_congr (and_iff_right rfl) rfl rfl

@[simp] theorem port_surveyNumbered (s : State) (p : Port) : (surveyNumbered s).port p = s.port p := by
  rcases p with (_ | _) | _ <;> rfl

theorem sendSurvey_endNode {s : State} (h : (surveyNumbered s).endNode = true) :
    sendSurvey s = takeReflectedSurvey (surveyNumbered s).builtSurvey (surveyNumbered s) := if_pos h

theorem sendSurvey_on {e : End} {s : State} (hp : s.holdsPosition = true) (he : s.consist.leadEnd = some e.other)
    (hal : s.alive e = true) (hroom : s.roomFor (.line e) 1) : sendSurvey s =
      (surveyNumbered s).enqueue (.line e) (queued (leadFrame .survey (surveyNumbered s).builtSurvey.payload)) := by
  have hend : (surveyNumbered s).endNode = false := by
    rw [endNode_of (s := surveyNumbered s) (e := e.other) hp he, End.other_other]
    cases e <;> exact congrArg not hal
  have hout : (surveyNumbered s).outwardEnd = some e := by
    rw [outwardEnd_of (s := surveyNumbered s) (e := e.other) he, End.other_other]
  have hr : (surveyNumbered s).roomFor (.line e) 1 := by rw [State.roomFor, port_surveyNumbered]; exact hroom
  unfold sendSurvey
  refine (if_neg (by rw [← surveyNumbered, hend]; decide)).trans ?_
  rw [← surveyNumbered, hout]
  exact offerEnd_room _ _ hr

/-- The survey sent, and the LEAD STATUS of a miss. -/
def surveySent (d : Nat) (e : End) (s : State) : State :=
  (surveyReady d s).enqueue (.line e) (queued (leadFrame .survey (surveyReady d s).builtSurvey.payload))

section surveySent

variable {d : Nat} {e : End} {s : State}

theorem exec_surveyPeriodExpiry (hlow : s.supplyLow = false) (hd : s.survey.period = some d)
    (ho : s.survey.outstanding = none ∨ s.item Item.autoRecall ≠ 1) : exec .surveyPeriodExpiry s =
      .next (finish (sendSurvey (missCounted (startSurveyPeriod ((begin s).reach d))))) := by
  show event (onExpiry s.survey.period surveyPeriodExpired) s = _
  rw [event_of _ hlow, hd, onExpiry_some, surveyPeriodExpired_sends (s := (begin s).reach d) ho]

theorem surveyReady_keepsUnits (d : Nat) (s : State) : KeepsUnits s ((surveyReady d s).withScratch s.scratch) := by
  rw [surveyReady_eq]; exact ⟨rfl, rfl, rfl, rfl, rfl⟩

theorem surveyReady_scratch (d : Nat) (s : State) :
    (surveyReady d s).scratch = ⟨s.teff, s.survey.outstanding.isSome, none⟩ := by rw [surveyReady_eq]

theorem exec_surveyPeriodExpiry_on (hlow : s.supplyLow = false) (hr : s.atRest) (hd : s.survey.period = some d)
    (hp : s.holdsPosition = true) (he : s.consist.leadEnd = some e.other) (hal : s.alive e = true)
    (hroom : s.roomFor (.line e) 1) (ho : s.survey.outstanding = none ∨ s.item Item.autoRecall ≠ 1) :
    exec .surveyPeriodExpiry s = .next ((flushStatus (surveySent d e s)).withScratch Scratch.rest) := by
  have hle : (surveyReady d s).consist.leadEnd = some e.other := by rw [surveyReady_eq]; exact he
  have hroom' : (surveyReady d s).roomFor (.line e) 1 := by rw [State.roomFor, port_surveyReady]; exact hroom
  have hk : KeepsUnits s ((surveySent d e s).withScratch s.scratch) := by
    rw [surveySent, ← enqueue_withScratch]
    exact (surveyReady_keepsUnits d s).trans (enqueue_keepsUnits _ _ _)
  have hsend := sendSurvey_on (s := missCounted (startSurveyPeriod ((begin s).reach d)))
    ((surveyReady_holdsPosition d s).trans hp) hle ((surveyReady_alive d s e).trans hal)
    (by rw [State.roomFor, ← port_surveyNumbered]; exact hroom')
  rw [exec_surveyPeriodExpiry hlow hd ho, hsend]
  exact congrArg Host.Outcome.next (finish_settled (t := surveySent d e s) hr hk
    (by rw [surveySent, enqueue_scratch, surveyReady_scratch]))

end surveySent

/-! ### The survey on the line (R78, R79, R82) -/

section surveyOnLine

variable (d : Nat) (e : End) (s : State)

theorem surveySent_missed : (surveySent d e s).scratch.missed = none := by
  rw [surveySent, enqueue_scratch, surveyReady_scratch]

theorem surveySent_statusDue : (surveySent d e s).scratch.statusDue = s.survey.outstanding.isSome := by
  rw [surveySent, enqueue_scratch, surveyReady_scratch]

/-- The survey is all that joins a queue. -/
theorem surveySent_queues : Queues (.line e)
    [queued (leadFrame .survey (surveyReady d s).builtSurvey.payload)] s (surveySent d e s) :=
  (queues_enqueue _ _ _).of_port (port_surveyReady d s _)

theorem surveySent_cab : (surveySent d e s).puC = s.puC :=
  (port_enqueue_ne _ _ _ (by simp : (Port.cab : Port) ≠ .line e)).trans (port_surveyReady d s .cab)

theorem flushStatus_lines {s : State} (hm : s.scratch.missed = none) (e : End) :
    (flushStatus s).port (.line e) = s.port (.line e) := by rw [flushStatus_eq hm]; cases e <;> rfl

/-- The findings of the survey built, in the words of R79. -/
theorem surveyReady_findings : byteAt (surveyReady d s).builtSurvey.payload 5 = (if s.doorsSecured then 1 else 0) ∧
    byteAt (surveyReady d s).builtSurvey.payload 6 = (if s.doorsSecured then 0 else 1) ∧
    byteAt (surveyReady d s).builtSurvey.payload 7 = (if s.doorFault .a = true ∨ s.doorFault .b = true then 1 else 0) ∧
    byteAt (surveyReady d s).builtSurvey.payload 8 =
      (if (surveyReady d s).consist.state = .stale then 1 else 0) ∧
    byteAt (surveyReady d s).builtSurvey.payload 9 =
      (if s.consist.comp1 = .segmentFault ∨ s.consist.comp2 = .segmentFault then 1 else 0) ∧
    byteAt (surveyReady d s).builtSurvey.payload 10 =
      (if (surveyReady d s).events &&& s.notices ≠ 0 then 1 else 0) := by
  obtain ⟨hdoors, -, -, hitems, -⟩ := surveyReady_keepsUnits d s
  have hsec : (surveyReady d s).doorsSecured = s.doorsSecured := doorsSecured_congr hdoors
  have hcomp : (surveyReady d s).anyComparison .segmentFault = s.anyComparison .segmentFault := by
    rw [surveyReady_eq]; rfl
  rw [builtSurvey_payload, hsec, doorFault_congr (t := surveyReady d s) hdoors,
    doorFault_congr (t := surveyReady d s) hdoors, hcomp]
  refine ⟨?_, ?_, firstField_zero (by simp), firstField_zero beq_iff_eq, firstField_zero (by simp [State.anyComparison]),
    firstField_zero ?_⟩
  · cases s.doorsSecured <;> rfl
  · cases s.doorsSecured <;> rfl
  · rw [State.noticed, decide_eq_true_iff, notices_congr (t := surveyReady d s) hitems]

end surveyOnLine

/-! ### A lead whose neighbour has gone (R36, R83; log 36) -/

/-- The lead's own survey evaluated as it comes back at once, the LEAD STATUS of the miss kept for sending. -/
def surveyEvaluated (d : SurveyData) (s : State) : State :=
  oweStatus { keepMiss s with survey := { s.survey with
    outstanding := none, misses := 0, record := recordOf d, foundStale := findsStale d s } }

/-- … and its finding acted on (R84). -/
def surveyTaken (d : SurveyData) (s : State) : State :=
  if findsStale d s = true then enterStale (surveyEvaluated d s) else surveyEvaluated d s

theorem takeReflectedSurvey_taken {d : SurveyData} {s : State} (hl : s.lead.state = .leading)
    (ho : s.survey.outstanding = some d.number) (hr : s.item Item.autoRecall ≠ 1) :
    takeReflectedSurvey d s = surveyTaken d s := by
  have hrec : (enterStale (surveyEvaluated d s)).recalls = false :=
    recalls_of_item (by rw [enterStale_eq]; exact hr)
  unfold surveyTaken
  rcases takeReflectedSurvey_cases d s with ⟨h, -⟩ | ⟨-, -, ⟨hf, h⟩ | ⟨hf, -, h⟩ | ⟨-, hrec', -⟩⟩
  · exact absurd ⟨hl, ho⟩ h
  · rw [h, if_neg (by rw [hf]; decide)]; rfl
  · rw [h, if_pos hf]; rfl
  · exact absurd (hrec.symm.trans hrec') (by decide)

theorem surveyTaken_eq (d : SurveyData) (s : State) : surveyTaken d s = { s with
    survey := { s.survey with outstanding := none, misses := 0, record := recordOf d, foundStale := findsStale d s }
    scratch := { s.scratch with
      statusDue := true, missed := if s.scratch.statusDue then some s.survey else none }
    events := (surveyTaken d s).events
    consist := { s.consist with state := (surveyTaken d s).consist.state } } := by
  unfold surveyTaken; split
  · rw [enterStale_eq]; rfl
  · rfl

/-- A survey that finds the consist stale leaves a placed node STALE (R84). -/
theorem surveyTaken_stale {d : SurveyData} {s : State} (h : findsStale d s = true) (hp : s.placedOrStale = true) :
    (surveyTaken d s).consist.state = .stale := by
  rw [surveyTaken, if_pos h, enterStale_state]
  split
  · rfl
  · next hn =>
    show s.consist.state = .stale
    simpa [State.placedOrStale, show s.consist.state ≠ .placed from hn] using hp

/-- The lone lead at the end of the event: the LEAD STATUS of the miss, and after it the evaluation's (R85; log 36). -/
def surveyReported (d : Nat) (s : State) : State :=
  let y := surveyTaken (surveyReady d s).builtSurvey (surveyReady d s)
  ((y.enqueue .cab (queued (leadStatusFrame { y with survey := (surveyReady d s).survey }))).enqueue .cab
    (queued (leadStatusFrame y))).withScratch Scratch.rest

theorem queues_enqueue_two (s : State) (p : Port) (q q' : Queued) :
    Queues p [q, q'] s ((s.enqueue p q).enqueue p q') := by
  rw [Queues, queues_enqueue, queues_enqueue, List.append_assoc]; rfl

/-- Two LEAD STATUS are sent, the one kept for the miss first. -/
theorem flushStatus_both {s : State} {u : SurveyUnit} (hd : s.scratch.statusDue = true)
    (hm : s.scratch.missed = some u) (hroom : s.roomFor .cab 2) : flushStatus s =
      (s.enqueue .cab (queued (leadStatusFrame { s with survey := u }))).enqueue .cab (queued (leadStatusFrame s)) := by
  have hone : s.roomFor .cab 1 := by unfold State.roomFor at *; omega
  have htwo : (s.enqueue .cab (queued (leadStatusFrame { s with survey := u }))).roomFor .cab 1 := by
    rw [State.roomFor, queues_enqueue, List.length_append]
    exact hroom
  rw [flushStatus_due hd, flushMiss_some hm, offer_room _ _ hone]
  exact offer_room _ _ htwo

theorem exec_surveyPeriodExpiry_alone {s : State} {d : Nat} {e : End} (hlow : s.supplyLow = false) (hr : s.atRest)
    (hd : s.survey.period = some d) (hp : s.placedOrStale = true) (hl : s.lead.state = .leading)
    (he : s.consist.leadEnd = some e.other) (hal : s.alive e = false) (ho : s.survey.outstanding.isSome = true)
    (hi : s.item Item.autoRecall ≠ 1) (hroom : s.roomFor .cab 2) :
    exec .surveyPeriodExpiry s = .next (surveyReported d s) := by
  have hv := surveyReady_eq d s
  have hend : (surveyReady d s).endNode = true := by
    rw [endNode_of (s := surveyReady d s) (e := e.other)
      ((surveyReady_holdsPosition d s).trans (holdsPosition_of_placedOrStale hp)) ((congrArg (·.consist.leadEnd) hv).trans he),
      End.other_other, surveyReady_alive, hal]
    rfl
  have htake := takeReflectedSurvey_taken (s := surveyReady d s) (d := (surveyReady d s).builtSurvey)
    ((congrArg (·.lead.state) hv).trans hl) rfl (by rw [hv]; exact hi)
  generalize hy : surveyTaken (surveyReady d s).builtSurvey (surveyReady d s) = y at htake
  have hyeq := hy ▸ surveyTaken_eq (surveyReady d s).builtSurvey (surveyReady d s)
  have hscr : y.scratch = ⟨s.teff, true, some (surveyReady d s).survey⟩ := by
    refine (congrArg (·.scratch) hyeq).trans ?_
    rw [surveyReady_scratch, ho]; rfl
  have hk : KeepsUnits s (y.withScratch s.scratch) :=
    (surveyReady_keepsUnits d s).trans (by rw [hyeq]; exact ⟨rfl, rfl, rfl, rfl, rfl⟩)
  have hcab : y.roomFor .cab 2 := by
    have hport : y.port .cab = (surveyReady d s).port .cab := congrArg (·.puC) hyeq
    rw [State.roomFor, hport, port_surveyReady]
    exact hroom
  rw [exec_surveyPeriodExpiry hlow hd (.inr hi), sendSurvey_endNode hend, ← surveyReady, htake,
    finish_settled hr hk (by rw [hscr]), flushStatus_both (by rw [hscr]) (by rw [hscr]) hcab, surveyReported, hy]

/-- Settles O32: the period restarted and the miss counted, the survey goes out, or is taken back where the neighbour has
gone. -/
theorem surveysAreBuilt : Obligations.SurveysAreBuilt := by
  unfold Obligations.SurveysAreBuilt
  constructor
  · intro s d e hlow hr hd hp he hal hroom ho
    have hm := surveySent_missed d e s
    have hv := surveyReady_eq d s
    have ht := flushStatus_eq hm
    have hsurvey : (flushStatus (surveySent d e s)).survey = (surveyReady d s).survey :=
      (congrArg (·.survey) ht).trans (enqueue_survey _ _ _)
    have hconsist : (flushStatus (surveySent d e s)).consist = (surveyReady d s).consist :=
      (congrArg (·.consist) ht).trans (enqueue_consist _ _ _)
    have hcab : s.roomFor .cab 1 → (surveySent d e s).roomFor .cab 1 := fun h => by
      rw [State.roomFor, State.port, surveySent_cab]; exact h
    have hvs := congrArg (·.survey) hv
    have hvc := congrArg (·.consist) hv
    obtain ⟨h5, h6, h7, h8, h9, h10⟩ := surveyReady_findings d s
    refine ⟨_, leadFrame .survey (surveyReady d s).builtSurvey.payload,
      exec_surveyPeriodExpiry_on hlow hr hd hp he hal hroom ho, ?_, ?_, ?_, ?_, ?_, ?_, ?_, rfl, mkFrame_hop .., rfl, rfl,
      mkFrame_leadward .., mkFrame_checkGood .., ?_, ?_, ?_, rfl, h5, h6, h7, ?_, h9, ?_, ?_, ?_, ?_, ?_, ?_, ?_, ?_⟩
    · exact (congrArg (·.period) (hsurvey.trans hvs) :)
    · exact (congrArg (·.number) (hsurvey.trans hvs) :)
    · exact (congrArg (·.outstanding) (hsurvey.trans hvs) :)
    · exact (congrArg (·.misses) (hsurvey.trans hvs) :)
    · intro hos hmiss
      refine ⟨flushStatus_present hm ?_, ?_⟩
      · rw [surveySent, State.present, enqueue_events]; exact surveyReady_leadLost d s hos hmiss
      · show (flushStatus (surveySent d e s)).consist.state ≠ .placed
        rw [hconsist, surveyReady_state]
        split
        · decide
        · next h => exact fun hp => h ⟨hos, hmiss, hp⟩
    · intro h
      refine (hconsist.trans hvc).trans ?_
      rw [surveyReady_state, if_neg fun hc => h ⟨hc.1, hc.2.1⟩]
    · exact (flushStatus_lines hm e).trans (surveySent_queues d e s)
    · exact congrArg (·.number) hvs
    · exact (congrArg (fun x : State => byteOf x.consist.length) hv :)
    · exact (wordAt_wordBytes (surveyReady d s).consist.check []).trans (congrArg (·.check) hvc)
    · exact h8.trans (if_congr (by rw [← hconsist]; rfl) rfl rfl)
    · intro hc
      refine h10.trans (if_congr ?_ rfl rfl)
      rw [← enqueue_events (surveyReady d s), ← surveySent, ← flushStatus_events hm (hcab hc)]; rfl
    · intro hos hc
      rw [flushStatus_room ((surveySent_statusDue d e s).trans hos) hm (hcab hc)]
      exact statusSent_enqueue _ (surveySent_cab d e s)
    · intro hos
      rw [flushStatus_of (by rw [surveySent_statusDue, hos]; rfl)]
      exact surveySent_cab d e s
    · exact (congrArg (·.record) (hsurvey.trans hvs) :)
    · exact ((congrArg (·.lead) ht).trans (enqueue_lead _ _ _)).trans (congrArg (·.lead) hv)
    · exact ((congrArg (·.doors) ht).trans (enqueue_doors _ _ _)).trans (congrArg (·.doors) hv)
    · exact ((congrArg (·.heat) ht).trans (enqueue_heat _ _ _)).trans (congrArg (·.heat) hv)
    · exact ((congrArg (·.seq) ht).trans (enqueue_seq _ _ _)).trans (congrArg (·.seq) hv)
  · intro s d e hlow hr hd hp hl he hal ho hi hroom
    have hexec := exec_surveyPeriodExpiry_alone hlow hr hd hp hl he hal ho hi hroom
    have hv := surveyReady_eq d s
    obtain ⟨h5, -, h7, -, -, -⟩ := surveyReady_findings d s
    have hport := port_surveyReady d s
    have hlen := (congrArg (·.consist.length) hv :)
    have hsv : (surveyReady d s).survey = { s.survey with
        period := some (max s.now d + s.itemN Item.surveyPeriod)
        number := s.survey.number + 1
        outstanding := some (s.survey.number + 1)
        misses := if s.survey.outstanding.isSome = true then min 3 (s.survey.misses + 1) else s.survey.misses } :=
      congrArg (·.survey) hv
    have hplaced : (surveyReady d s).placedOrStale = true := by
      unfold State.placedOrStale at hp ⊢
      rw [surveyReady_state]; split
      · rfl
      · exact hp
    have hstale := surveyTaken_stale (d := (surveyReady d s).builtSurvey) (s := surveyReady d s) (hp := hplaced)
    unfold surveyReported at hexec
    have hyeq := surveyTaken_eq (surveyReady d s).builtSurvey (surveyReady d s)
    generalize hy : surveyTaken (surveyReady d s).builtSurvey (surveyReady d s) = y at hexec hyeq hstale
    have hsy := (congrArg (·.survey) hyeq :)
    refine ⟨_, leadStatusFrame { y with survey := (surveyReady d s).survey }, leadStatusFrame y, hexec, ?_, ?_, rfl, rfl,
      ?_, rfl, mkFrame_checkGood .., mkFrame_checkGood .., congrArg (·.misses) hsy, congrArg (·.outstanding) hsy, ?_, ?_, ?_,
      ?_, ?_, ?_, ?_, ?_, ?_, ?_⟩
    · exact (queues_enqueue_two y .cab _ _).of_port ((congrArg (·.puC) hyeq).trans (hport .cab))
    · intro x; cases x
      · exact (congrArg (·.pu1) hyeq).trans (hport (.line .e1))
      · exact (congrArg (·.pu2) hyeq).trans (hport (.line .e2))
    · show leadStatusPayload { y with survey := (surveyReady d s).survey } = _
      rw [hsv, ho]; rfl
    · exact (congrArg (·.number) hsy).trans (congrArg (·.number) hsv)
    · exact (congrArg (·.record.number) hsy).trans (congrArg (·.number) hsv)
    · exact congrArg (·.record.endPosition) hsy
    · refine (congrArg (·.record.allSecured) hsy).trans ?_
      show BitVec.getLsbD (byteAt (surveyReady d s).builtSurvey.payload 5) 0 = _
      rw [h5]; cases s.doorsSecured <;> rfl
    · exact (congrArg (·.record.firstFault) hsy).trans h7
    · intro hne
      have hf : findsStale (surveyReady d s).builtSurvey (surveyReady d s) = true := by
        unfold findsStale
        rw [Bool.or_eq_true]
        exact .inl (decide_eq_true fun h => hne (hlen.symm.trans h.symm))
      exact ⟨(congrArg (·.foundStale) hsy).trans hf, hstale hf⟩
    · exact (congrArg (·.lead) hyeq).trans (congrArg (·.lead) hv)
    · exact (congrArg (·.doors) hyeq).trans (congrArg (·.doors) hv)
    · exact (congrArg (·.heat) hyeq).trans (congrArg (·.heat) hv)
    · exact (congrArg (·.seq) hyeq).trans (congrArg (·.seq) hv)

end Sys2Proof.Machine
end

section
/-! The end of an event that owes no LEAD STATUS, and the order dispatcher: what each selected action does, and what the
dispatcher leaves alone (R87 to R100, R124, R146). -/

namespace Sys2Proof.Machine

/-! ### The end of an event that owes no LEAD STATUS (R124, R146) -/

theorem settleTone_eq (s : State) :
    settleTone s = { s with doors := { s.doors with tone := (settleTone s).doors.tone } } := by
  unfold settleTone; split <;> rfl

theorem settleHeat_eq (s : State) : settleHeat s = { s with
    heat := { s.heat with
      level := (settleHeat s).heat.level, minOff := (settleHeat s).heat.minOff, raise := (settleHeat s).heat.raise }
    scratch := { s.scratch with teff := s.teff } } := by
  unfold settleHeat; dsimp only
  split_ifs <;> rfl

/-- It settles the tone and the energizer, and nothing else. -/
theorem finish_owesNothing {s : State} (h : s.scratch.statusDue = false) : finish s = { s with
    doors := { s.doors with tone := (finish s).doors.tone }
    heat := { s.heat with
      level := (finish s).heat.level, minOff := (finish s).heat.minOff, raise := (finish s).heat.raise }
    scratch := Scratch.rest } := by
  have hs : finish s = { settleHeat (settleTone s) with scratch := Scratch.rest } := by
    unfold finish; rw [flushStatus_of (by rw [settleHeat_eq, settleTone_eq]; exact h)]
  rw [hs, settleHeat_eq, settleTone_eq]

/-- The stages above the effective target are off (R147). -/
theorem finish_level {s : State} (h : s.scratch.statusDue = false) :
    (finish s).heat.level = min s.heat.level s.teff := by
  unfold finish
  rw [flushStatus_of (by rw [settleHeat_eq, settleTone_eq]; exact h)]
  refine (settleHeat_level _).trans ?_
  rw [settleTone_eq]; rfl

/-! ### The selected action (R89, R94 to R99) -/

section selected

variable {d : OrderData} {s : State} {k : Nat} {x : OrderEntry}

theorem takeOrder_unmatched (h : s.selected d.code = none) : takeOrder d s = orderUnmatched d s := by
  unfold takeOrder; rw [h]

theorem takeOrder_ignore (h : s.selected d.code = some (k, x)) (hx : x.action = .ignore) :
    takeOrder d s = recordBare d k .ignore .ignored s := by unfold takeOrder; rw [h]; dsimp only; rw [hx]

theorem takeOrder_release (h : s.selected d.code = some (k, x)) (hx : x.action = .release) :
    takeOrder d s = orderRelease d k s := by unfold takeOrder; rw [h]; dsimp only; rw [hx]

theorem takeOrder_close (h : s.selected d.code = some (k, x)) (hx : x.action = .close) :
    takeOrder d s = orderClose d k s := by unfold takeOrder; rw [h]; dsimp only; rw [hx]

theorem takeOrder_doorReset (h : s.selected d.code = some (k, x)) (hx : x.action = .doorReset) :
    takeOrder d s = orderDoorReset d k s := by unfold takeOrder; rw [h]; dsimp only; rw [hx]

theorem takeOrder_chime (h : s.selected d.code = some (k, x)) (hx : x.action = .chime) :
    takeOrder d s = orderChime d k x.param s := by unfold takeOrder; rw [h]; dsimp only; rw [hx]

theorem takeOrder_heatCap (h : s.selected d.code = some (k, x)) (hx : x.action = .heatCap) :
    takeOrder d s = orderHeatCap d k x.param s := by unfold takeOrder; rw [h]; dsimp only; rw [hx]

end selected

/-! ### What the dispatcher leaves alone, and what it does not go by -/

/-- The state with its lead-loss timer and its scratch fields replaced: a frame's source has moved the one, and the event
has begun with the other. -/
def State.withLoss (s : State) (l : Timer) (c : Scratch) : State :=
  { s with consist := { s.consist with leadLoss := l }, scratch := c }

/-- A door action changes the door unit alone, and goes by neither the lead-loss timer nor the scratch fields. -/
structure DoorsAlone (act : Side → State → SideResult × State) : Prop where
  doors : ∀ c s, (act c s).2 = { s with doors := (act c s).2.doors }
  blind : ∀ c s l sc, act c (s.withLoss l sc) = ((act c s).1, (act c s).2.withLoss l sc)

/-- A channel's answer to a release (R110). -/
def State.releaseAnswer (s : State) (c : Side) : SideResult :=
  if (s.channel c).state = .fault then .refused .inFault
  else if (s.channel c).state = .isolated then .refused .isolated
  else if (s.channel c).state = .released then .unchanged
  else if s.active .zsp = false then .refused .notStandstill
  else if s.consist.state ≠ .placed then .refused .noConsist
  else .accepted

theorem releaseChannel_eq (c : Side) (s : State) : releaseChannel c s =
    (s.releaseAnswer c, if s.releaseAnswer c = .accepted then enterReleased c s else s) := by
  unfold releaseChannel State.releaseAnswer
  cases (s.channel c).state <;> dsimp only <;> split_ifs <;> simp_all

theorem releaseChannel_doorsAlone : DoorsAlone releaseChannel where
  doors c s := by
    rw [releaseChannel_eq]; dsimp only; split
    · cases c <;> rfl
    · rfl
  blind c s l sc := by
    have ha : (s.withLoss l sc).releaseAnswer c = s.releaseAnswer c := by cases c <;> rfl
    rw [releaseChannel_eq, releaseChannel_eq, ha]; split
    · cases c <;> rfl
    · rfl

theorem doorResetChannel_doorsAlone : DoorsAlone doorResetChannel where
  doors c s := by
    unfold doorResetChannel; split
    · cases c <;> rfl
    · rfl
  blind c s l sc := by
    have hf : (s.withLoss l sc).doorFault c = s.doorFault c := by cases c <;> rfl
    unfold doorResetChannel; rw [hf]; split
    · cases c <;> rfl
    · rfl

theorem closeChannel_doorsAlone : DoorsAlone closeChannel where
  doors c s := by
    unfold closeChannel; split
    · cases c <;> rfl
    · exact doorResetChannel_doorsAlone.doors c s
  blind c s l sc := by
    have hch : (s.withLoss l sc).channel c = s.channel c := by cases c <;> rfl
    unfold closeChannel; rw [hch]; split
    · cases c <;> rfl
    · exact doorResetChannel_doorsAlone.blind c s l sc

/-- An action handed to one channel where the set holds it. -/
def handSide (act : Side → State → SideResult × State) (set : Side → Bool) (c : Side) (s : State) : SideResult × State :=
  if set c = true then act c s else (.notAddressed, s)

theorem handSide_doorsAlone {act : Side → State → SideResult × State} (h : DoorsAlone act) (set : Side → Bool) :
    DoorsAlone (handSide act set) where
  doors c s := by
    unfold handSide; split
    · exact h.doors c s
    · rfl
  blind c s l sc := by
    unfold handSide; split
    · exact h.blind c s l sc
    · rfl

section handDoors

variable {act : Side → State → SideResult × State} (d : OrderData) (i : Nat) (a : Action) (set : Side → Bool) (s : State)

/-- The channels in their order, and the record of both answers (R94, R100). -/
theorem handDoors_eq : handDoors d i a act set s =
    recordOutcome d (some (i, a))
      (doorOutcome (handSide act set .a s).1 (handSide act set .b (handSide act set .a s).2).1)
      (handSide act set .a s).1 (handSide act set .b (handSide act set .a s).2).1
      (handSide act set .b (handSide act set .a s).2).2 := rfl

theorem handDoors_doors (h : DoorsAlone act) : handDoors d i a act set s = { s with
    doors := (handDoors d i a act set s).doors, dispatch := (handDoors d i a act set s).dispatch } := by
  have hs := handSide_doorsAlone h set
  rw [handDoors_eq, hs.doors .b (handSide act set .a s).2, hs.doors .a s]; rfl

theorem handDoors_withLoss (h : DoorsAlone act) (l : Timer) (sc : Scratch) :
    handDoors d i a act set (s.withLoss l sc) = (handDoors d i a act set s).withLoss l sc := by
  have hs := handSide_doorsAlone h set
  rw [handDoors_eq, handDoors_eq, hs.blind .a s l sc, hs.blind .b _ l sc]; rfl

end handDoors

/-- An ORDER changes the door unit, the dispatcher's own fields and C_cmd. -/
theorem takeOrder_rest (d : OrderData) (s : State) : takeOrder d s = { s with
    doors := (takeOrder d s).doors, dispatch := (takeOrder d s).dispatch
    heat := { s.heat with cCmd := (takeOrder d s).heat.cCmd } } := by
  rcases hsel : s.selected d.code with _ | ⟨k, x⟩
  · rw [takeOrder_unmatched hsel]; rfl
  cases hx : x.action with
  | ignore => rw [takeOrder_ignore hsel hx]; rfl
  | release =>
    rw [takeOrder_release hsel hx]; unfold orderRelease; split
    · rfl
    split
    · rw [handDoors_doors _ _ _ _ _ releaseChannel_doorsAlone]
    · rfl
  | close =>
    rw [takeOrder_close hsel hx]; unfold orderClose; split
    · rw [handDoors_doors _ _ _ _ _ closeChannel_doorsAlone]
    · rfl
  | doorReset =>
    rw [takeOrder_doorReset hsel hx]; unfold orderDoorReset; split
    · rw [handDoors_doors _ _ _ _ _ doorResetChannel_doorsAlone]
    · rfl
  | chime => rw [takeOrder_chime hsel hx]; rfl
  | heatCap => rw [takeOrder_heatCap hsel hx]; rfl

theorem takeOrder_withLoss (d : OrderData) (s : State) (l : Timer) (sc : Scratch) :
    takeOrder d (s.withLoss l sc) = (takeOrder d s).withLoss l sc := by
  have hl : (s.withLoss l sc).selected d.code = s.selected d.code := rfl
  have hr : inRange d (s.withLoss l sc) = inRange d s := rfl
  rcases hsel : s.selected d.code with _ | ⟨k, x⟩
  · rw [takeOrder_unmatched hsel, takeOrder_unmatched (hl.trans hsel)]; rfl
  have hsel' := hl.trans hsel
  cases hx : x.action with
  | ignore => rw [takeOrder_ignore hsel hx, takeOrder_ignore hsel' hx]; rfl
  | release =>
    rw [takeOrder_release hsel hx, takeOrder_release hsel' hx]; unfold orderRelease; split
    · rfl
    rw [hr]; split
    · exact handDoors_withLoss _ _ _ _ _ releaseChannel_doorsAlone _ _
    · rfl
  | close =>
    rw [takeOrder_close hsel hx, takeOrder_close hsel' hx]; unfold orderClose; rw [hr]; split
    · exact handDoors_withLoss _ _ _ _ _ closeChannel_doorsAlone _ _
    · rfl
  | doorReset =>
    rw [takeOrder_doorReset hsel hx, takeOrder_doorReset hsel' hx]; unfold orderDoorReset; rw [hr]; split
    · exact handDoors_withLoss _ _ _ _ _ doorResetChannel_doorsAlone _ _
    · rfl
  | chime => rw [takeOrder_chime hsel hx, takeOrder_chime hsel' hx]; rfl
  | heatCap => rw [takeOrder_heatCap hsel hx, takeOrder_heatCap hsel' hx]; rfl

end Sys2Proof.Machine
end

section
/-! The statement about an ORDER from the cab (R37, R87 to R92, R97, R98). -/

namespace Sys2Proof.Machine

/-! ### Channels and ports, which neither the dispatcher's record nor the end of the event moves -/

theorem finish_channel {s : State} (h : s.scratch.statusDue = false) (c : Side) : (finish s).channel c = s.channel c := by
  rw [finish_owesNothing h]; cases c <;> rfl

theorem finish_port {s : State} (h : s.scratch.statusDue = false) (p : Port) : (finish s).port p = s.port p := by
  rw [finish_owesNothing h]; rcases p with (_ | _) | _ <;> rfl

/-- The dispatcher moves no port. -/
@[simp] theorem port_takeOrder (d : OrderData) (s : State) (p : Port) : (takeOrder d s).port p = s.port p := by
  rw [takeOrder_rest]; rcases p with (_ | _) | _ <;> rfl

theorem takeOrder_alive (d : OrderData) (s : State) (e : End) : (takeOrder d s).alive e = s.alive e := by
  rw [takeOrder_rest]; cases e <;> rfl

theorem takeOrder_consist (d : OrderData) (s : State) : (takeOrder d s).consist = s.consist := by rw [takeOrder_rest]

theorem takeOrder_withScratch (d : OrderData) (s : State) (c : Scratch) :
    takeOrder d (s.withScratch c) = (takeOrder d s).withScratch c := by
  refine (takeOrder_withLoss d s s.consist.leadLoss c).trans ?_
  unfold State.withLoss State.withScratch
  rw [takeOrder_consist]

theorem relayCabLead_order {f : Frame} (r : LineRate) (s : State) (hk : f.kind = .order) : relayCabLead f r s =
    if (s.holdsPosition && !s.endNode) = true then
      offerEnd (takeOrder (OrderData.ofPayload f.payload) s).outwardEnd (f.fromCab destAll) r
        (takeOrder (OrderData.ofPayload f.payload) s)
    else takeOrder (OrderData.ofPayload f.payload) s := by
  unfold relayCabLead; dsimp only; rw [hk]

section cabOrder

variable {f : LineFrame} {s : State} (h : Heard .cab (frameOf f .order []) s) (hrole : s.lead.role = true)

include h hrole

/-- The cab's ORDER at a lead without a position is handled, and goes no further (R37). -/
theorem exec_cabOrder_unplaced (hp : s.holdsPosition = false) : exec (.order .cab f) s =
    .next (finish ((takeOrder (OrderData.ofPayload f.body) (heard .cab s)).withScratch ⟨s.teff, false, none⟩)) := by
  rw [exec_heard rfl h (by simp [frameOf]), relay, if_pos (by simpa using hrole), relayCabLead_order _ _ rfl, if_neg]
  · exact congrArg (fun t => Host.Outcome.next (finish t)) (takeOrder_withScratch _ _ _)
  · rw [withScratch_holdsPosition, heard_holdsPosition, hp]; exact Bool.false_ne_true

/-- At one with a position and an outward neighbour it also goes on, at the cab's rate (R37). -/
theorem exec_cabOrder_placed {e : End} (hp : s.holdsPosition = true) (he : s.consist.leadEnd = some e.other)
    (hal : s.alive e = true) (hroom : s.roomFor (.line e) 1) : exec (.order .cab f) s =
    .next (finish (((takeOrder (OrderData.ofPayload f.body) (heard .cab s)).enqueue (.line e)
      ⟨(frameOf f .order []).fromCab destAll, s.rateAt .cab, false⟩).withScratch ⟨s.teff, false, none⟩)) := by
  have hp' : ((heard .cab s).withScratch ⟨s.teff, false, none⟩).holdsPosition = true := (heard_holdsPosition _ s).trans hp
  have he' : ((heard .cab s).withScratch ⟨s.teff, false, none⟩).consist.leadEnd = some e.other :=
    (heard_leadEnd _ s).trans he
  have hend : ((heard .cab s).withScratch ⟨s.teff, false, none⟩).endNode = false := by
    rw [endNode_of hp' he', End.other_other]; simp [hal]
  rw [exec_heard rfl h (by simp [frameOf]), relay, if_pos (by simpa using hrole), relayCabLead_order _ _ rfl,
    if_pos (by rw [hp', hend]; rfl), outwardEnd_of (by rw [takeOrder_consist]; exact he'), End.other_other,
    offerEnd_room _ _ (by simpa only [State.roomFor, port_takeOrder, port_withScratch, heard_queue] using hroom),
    takeOrder_withScratch, enqueue_withScratch]
  rfl

end cabOrder

/-! ### What selects an entry, and what stands at the end of the event -/

/-- A frame heard changes nothing that selects an entry (R89). -/
theorem selected_heard (p : Port) (s : State) (code : Byte) : (heard p s).selected code = s.selected code := by
  have hm : entryMatches code (heard p s) = entryMatches code s := by
    unfold entryMatches State.itemN State.item
    rw [heard_items, heard_holdsPosition, heard_position]
  unfold State.selected
  rw [hm, heard_orders]

theorem finish_doors {s : State} (h : s.scratch.statusDue = false) (ht : s.doors.tone.isSome = s.toneDemand) :
    (finish s).doors = s.doors := by
  unfold finish
  rw [settleTone_of ht, flushStatus_of (by rw [settleHeat_eq]; exact h), settleHeat_eq]

/-- The effective target keeps within the commanded cap (R146). -/
theorem teff_le_cCmd (s : State) : s.teff ≤ s.heat.cCmd := by
  unfold State.teff State.ceiling; omega

/-- What the dispatcher has left in `T` still stands in `t`, at the end of the event and with the frame sent on. -/
structure OrderStands (T t : State) : Prop where
  dispatch : t.dispatch = T.dispatch
  channel : ∀ c, t.channel c = T.channel c
  chime : t.doors.chime = T.doors.chime
  cCmd : t.heat.cCmd = T.heat.cCmd
  consist : t.consist = T.consist
  lead : t.lead = T.lead
  items : t.items = T.items
  inputs : t.inputs = T.inputs
  supplyLow : t.supplyLow = T.supplyLow

theorem finish_orderStands {T y : State} (hd : y.scratch.statusDue = false)
    (hy : y = { T with pu1 := y.pu1, pu2 := y.pu2, scratch := y.scratch }) : OrderStands T (finish y) := by
  have hf := finish_owesNothing hd
  constructor
  · exact (congrArg (·.dispatch) hf).trans (congrArg (·.dispatch) hy)
  · intro c; rw [finish_channel hd, hy]; cases c <;> rfl
  · exact (congrArg (·.doors.chime) hf).trans (congrArg (·.doors.chime) hy)
  · exact (congrArg (·.heat.cCmd) hf).trans (congrArg (·.heat.cCmd) hy)
  · exact (congrArg (·.consist) hf).trans (congrArg (·.consist) hy)
  · exact (congrArg (·.lead) hf).trans (congrArg (·.lead) hy)
  · exact (congrArg (·.items) hf).trans (congrArg (·.items) hy)
  · exact (congrArg (·.inputs) hf).trans (congrArg (·.inputs) hy)
  · exact (congrArg (·.supplyLow) hf).trans (congrArg (·.supplyLow) hy)

/-! ### Arguments and range (R91, R92) -/

theorem argumentsGood_eq_false {d : OrderData} (h : 2 < d.side.toNat ∨ (d.first ≠ 0 ∧
    (32 < d.first.toNat ∨ d.last.toNat < d.first.toNat ∨ 32 < d.last.toNat))) : argumentsGood d = false := by
  simp only [argumentsGood, rangeGood, Bool.and_eq_false_iff, Bool.or_eq_false_iff, decide_eq_false_iff_not,
    beq_eq_false_iff_ne]
  rcases h with h | ⟨h0, h⟩
  · left; omega
  · right; refine ⟨h0, ?_⟩; omega

/-- A range that is well formed and begins at 1 or above (R91). -/
theorem rangeGood_of {d : OrderData} (h : d.first.toNat ≤ d.last.toNat) (h32 : d.last.toNat ≤ 32) :
    rangeGood d = true := by
  simp only [rangeGood, Bool.or_eq_true, Bool.and_eq_true, decide_eq_true_eq]
  omega

theorem inRange_eq_false {d : OrderData} {s : State} (hp : s.holdsPosition = true) (h1 : 1 ≤ d.first.toNat)
    (hg : rangeGood d = true) (hout : s.consist.position < d.first.toNat ∨ d.last.toNat < s.consist.position) :
    inRange d s = false := by
  have h0 : d.first ≠ 0 := by rintro h; rw [h] at h1; exact absurd h1 (by decide)
  simp only [inRange, hg, hp, Bool.not_true, Bool.false_or, Bool.or_eq_false_iff, beq_eq_false_iff_ne,
    Bool.and_eq_false_iff, decide_eq_false_iff_not]
  exact ⟨⟨h0, trivial⟩, by omega⟩

/-- Settles O34: at a lead without a position, at one with a position, and the actions at any node. -/
theorem ordersOfTheCabAreHandled : Obligations.OrdersOfTheCabAreHandled := by
  unfold Obligations.OrdersOfTheCabAreHandled
  refine ⟨fun f s h hrole hp => ⟨fun hsel => ?_, fun k x hsel hx => ?_⟩, fun f s e h hrole hp he hal hroom => ?_,
    fun d s k x hsel => ⟨fun hx => ?_, fun hx hbad => ?_, fun hx hp h1 h2 h32 hout => ?_⟩⟩
  · have hsel' : (heard .cab s).selected (OrderData.ofPayload f.body).code = none := (selected_heard _ _ _).trans hsel
    have hT : takeOrder (OrderData.ofPayload f.body) (heard .cab s) = { heard .cab s with dispatch :=
        ⟨⟨byteAt f.body 0, byteAt f.body 1, byteAt f.body 2, byteAt f.body 3, none, none, .unmatched, .notAddressed,
          .notAddressed⟩, min 255 (s.dispatch.unmatched + 1)⟩ } := by
      rw [takeOrder_unmatched hsel', ← congrArg Dispatcher.unmatched (heard_dispatch .cab s)]; rfl
    have hk := heard_keepsUnits .cab s
    obtain ⟨hd, hh, hi, hm, hs⟩ := hk
    rw [exec_cabOrder_unplaced h hrole hp, hT]
    exact congrArg Host.Outcome.next
      (finish_unmoved h.2.1 hd (teff_congr hd hh hi hm) (congrArg (·.level) hh) (congrArg (·.raise) hh) hs)
  · obtain ⟨y, hy⟩ : ∃ y : State, y = (takeOrder (OrderData.ofPayload f.body) (heard .cab s)).withScratch
        ⟨s.teff, false, none⟩ := ⟨_, rfl⟩
    have hsel' : (heard .cab s).selected (OrderData.ofPayload f.body).code = some (k, x) :=
      (selected_heard _ _ _).trans hsel
    have hd : y.scratch.statusDue = false := by rw [hy]; rfl
    rw [takeOrder_heatCap hsel' hx] at hy
    have hf := finish_owesNothing hd
    have hdoors : y.doors = s.doors := by rw [hy]; exact heard_doors .cab s
    have hcCmd : y.heat.cCmd = min x.param.toNat 4 := by rw [hy]; rfl
    refine ⟨finish y, by rw [exec_cabOrder_unplaced h hrole hp, takeOrder_heatCap hsel' hx, hy], ?_, ?_, ?_, ?_, ?_, ?_, ?_⟩
    · exact (congrArg (·.heat.cCmd) hf).trans hcCmd
    · rw [finish_level hd, (congrArg (·.heat.cCmd) hf : (finish y).heat.cCmd = y.heat.cCmd)]
      exact (min_le_right _ _).trans (teff_le_cCmd y)
    · refine (congrArg (·.heat.target) hf).trans ?_
      rw [hy]; exact congrArg (·.target) (heard_heat .cab s)
    · refine (congrArg (·.dispatch) hf).trans ?_
      rw [hy]
      exact congrArg (fun u : Dispatcher => (⟨_, u.unmatched⟩ : Dispatcher)) (heard_dispatch .cab s)
    · rw [finish_doors hd, hdoors]
      rw [toneDemand_congr hdoors, hdoors]
      exact h.2.1.2.1
    · refine (congrArg (·.consist) hf).trans ?_
      rw [hy]; exact heard_cab_consist s
    · intro q hq
      rw [finish_port hd, hy]
      refine Eq.trans ?_ (heard_port_ne .cab s hq)
      rcases q with (_ | _) | _ <;> rfl
  · obtain ⟨hl, hr, hh, hc⟩ := fromCab_fields (frameOf f .order []) destAll
    have hexec := exec_cabOrder_placed h hrole hp he hal hroom
    obtain ⟨T, hT⟩ : ∃ T, T = takeOrder (OrderData.ofPayload f.body) (heard .cab s) := ⟨_, rfl⟩
    obtain ⟨q, hq⟩ : ∃ q : Queued, q = ⟨(frameOf f .order []).fromCab destAll, s.rateAt .cab, false⟩ := ⟨_, rfl⟩
    have hport (p : Port) : T.port p = (heard .cab s).port p := by rw [hT, port_takeOrder]
    rw [← hT, ← hq] at hexec
    rw [← hT]
    obtain ⟨y, hy⟩ : ∃ y : State, y = (T.enqueue (.line e) q).withScratch ⟨s.teff, false, none⟩ := ⟨_, rfl⟩
    rw [← hy] at hexec
    have hd : y.scratch.statusDue = false := by rw [hy]; rfl
    have hst : OrderStands T (finish y) := finish_orderStands hd (by rw [hy]; cases e <;> rfl)
    have hyport (p : Port) : (finish y).port p = (T.enqueue (.line e) q).port p := by
      rw [finish_port hd, hy]; rcases p with (_ | _) | _ <;> rfl
    refine ⟨finish y, (frameOf f .order []).fromCab destAll, hexec, hst.dispatch, hst.channel, hst.chime, hst.cCmd, ?_, rfl,
      hl, hr, hh, rfl, rfl, rfl, hc, ?_, ?_, ?_, ?_⟩
    · rw [← hq]
      refine (hyport _).trans ((queues_enqueue T (.line e) q).trans ?_)
      rw [hport, heard_port_ne _ _ (by simp)]
    · refine (hyport .cab).trans ((port_enqueue_ne _ _ _ (by simp)).trans (hport .cab))
    · refine (hyport _).trans ((port_enqueue_ne _ _ _ (by simp)).trans ((hport _).trans (heard_port_ne _ _ (by simp))))
    · rw [hst.consist, hT, takeOrder_consist, heard_cab_consist]
    · rw [hst.lead, hT, takeOrder_rest]; exact heard_lead .cab s
  · rw [takeOrder_chime hsel hx]; rfl
  · rw [takeOrder_release hsel hx, orderRelease, if_pos (argumentsGood_eq_false hbad)]; rfl
  · have hg := rangeGood_of h2 h32
    have hr := inRange_eq_false hp h1 hg hout
    rcases hx with ⟨hx, hside⟩ | hx | hx
    · have hargs : argumentsGood d = true := by rw [argumentsGood, hg, Bool.and_true]; exact decide_eq_true hside
      rw [takeOrder_release hsel hx, orderRelease, hargs, if_neg (by decide), hr, hx]; rfl
    · rw [takeOrder_close hsel hx, orderClose, hr, hx]; rfl
    · rw [takeOrder_doorReset hsel hx, orderDoorReset, hr, hx]; rfl

end Sys2Proof.Machine
end

section
/-! The statement about a RELEASE and an ORDER of the line (R93, R94, R100, R110, R111). -/

namespace Sys2Proof.Machine

/-! ### A release at the channels of a node (R93, R94, R100, R110) -/

/-- What a side's channel answers to a release, where the ORDER's side names it. -/
def State.releaseResult (s : State) (side : Byte) (c : Side) : SideResult :=
  if addressed side s c = true then s.releaseAnswer c else .notAddressed

/-- The channel it leaves (R110, R111). -/
def State.releasedChannel (s : State) (side : Byte) (c : Side) : Channel :=
  if s.releaseResult side c = .accepted then { s.channel c with state := .released, timer := none, retries := 0 }
  else s.channel c

theorem setChannel_self (c : Side) (s : State) : s.setChannel c (s.channel c) = s := by cases c <;> rfl

theorem handSide_release (side : Byte) (c : Side) (s : State) : handSide releaseChannel (addressed side s) c s =
    (s.releaseResult side c, s.setChannel c (s.releasedChannel side c)) := by
  unfold handSide State.releasedChannel State.releaseResult
  split
  · rw [releaseChannel_eq]
    split
    · rfl
    · rw [setChannel_self]
  · rw [if_neg (by decide), setChannel_self]

theorem takeOrder_released {d : OrderData} {s : State} {k : Nat} {x : OrderEntry} (hsel : s.selected d.code = some (k, x))
    (hx : x.action = .release) (hargs : argumentsGood d = true) (hr : inRange d s = true) : takeOrder d s =
      recordOutcome d (some (k, .release)) (doorOutcome (s.releaseResult d.side .a) (s.releaseResult d.side .b))
        (s.releaseResult d.side .a) (s.releaseResult d.side .b)
        { s with doors := { s.doors with a := s.releasedChannel d.side .a, b := s.releasedChannel d.side .b } } := by
  rw [takeOrder_release hsel hx, orderRelease, hargs, if_neg (by decide), if_pos hr, handDoors_eq,
    handSide_release d.side .a s]
  exact congrArg (fun r : SideResult × State => recordOutcome d (some (k, .release))
    (doorOutcome (s.releaseResult d.side .a) r.1) (s.releaseResult d.side .a) r.1 r.2)
    (handSide_release d.side .b (s.setChannel .a (s.releasedChannel d.side .a)))

theorem releaseAnswer_ne_notAddressed (s : State) (c : Side) : s.releaseAnswer c ≠ .notAddressed := by
  unfold State.releaseAnswer; split_ifs <;> simp

theorem releaseResult_eq_notAddressed (s : State) (side : Byte) (c : Side) :
    s.releaseResult side c = .notAddressed ↔ addressed side s c = false := by
  unfold State.releaseResult; split
  · next h => simp [h, releaseAnswer_ne_notAddressed]
  · next h => simpa using h

/-- The conditions under which a release is accepted (R110). -/
theorem releaseResult_eq_accepted (s : State) (side : Byte) (c : Side) : s.releaseResult side c = .accepted ↔
    addressed side s c = true ∧ ((s.channel c).state = .locked ∨ (s.channel c).state = .warning ∨
      (s.channel c).state = .closing ∨ (s.channel c).state = .recycle) ∧ s.active .zsp = true ∧
      s.consist.state = .placed := by
  unfold State.releaseResult State.releaseAnswer
  cases (s.channel c).state <;> split_ifs <;> simp_all

/-- The outcome that the answers give (R100). -/
theorem doorOutcome_eq (a b : SideResult) : doorOutcome a b =
    if a.isRefused = false ∧ b.isRefused = false then .done
    else if (a = .notAddressed ∨ a.isRefused = true) ∧ (b = .notAddressed ∨ b.isRefused = true) then .refused
    else .partly := by
  cases a <;> cases b <;> rfl

/-! ### An ORDER of the line (R27, R28, R32) -/

section lineOrder

variable {e : End} {f : LineFrame} {s : State}

/-- The state in which the dispatcher leaves an ORDER taken from the line (R27, R77). -/
def lineOrdered (e : End) (f : LineFrame) (s : State) : State :=
  takeOrder (OrderData.ofPayload f.body) (handSource f.src (heard (.line e) s))

/-- The frame's source changes nothing that the dispatcher goes by or touches. -/
theorem lineOrdered_eq : lineOrdered e f s =
    (takeOrder (OrderData.ofPayload f.body) (heard (.line e) s)).withLoss
      (handSource f.src (heard (.line e) s)).consist.leadLoss s.scratch := by
  unfold lineOrdered
  rw [← takeOrder_withLoss, ← heard_scratch (.line e) s]
  rw [handSource_eq]; rfl

@[simp] theorem port_lineOrdered (p : Port) : (lineOrdered e f s).port p = (heard (.line e) s).port p := by
  rw [lineOrdered, port_takeOrder, port_handSource]

theorem exec_lineOrder (h : Heard (.line e) (frameOf f .order []) s) (hp : s.holdsPosition = true)
    (he : s.consist.leadEnd = some e) (hrole : s.lead.role = false) (hacc : acceptedOnEnd (frameOf f .order []) = true)
    (hl : (frameOf f .order []).leadward = false) (hroom : s.alive e.other = true → s.roomFor (.line e.other) 1) :
    exec (.order (.line e) f) s = .next (finish ((forwarded e (frameOf f .order []) (s.rateAt (.line e))
      (lineOrdered e f s)).withScratch ⟨s.teff, false, none⟩)) := by
  have hc : (lineOrdered e f s).consist = (handSource f.src (heard (.line e) s)).consist := takeOrder_consist _ _
  have hp' : (lineOrdered e f s).holdsPosition = true := by
    rw [State.holdsPosition, hc]
    exact (handSource_holdsPosition _ _).trans ((heard_holdsPosition _ s).trans hp)
  have he' : (lineOrdered e f s).consist.leadEnd = some e := by
    rw [hc, handSource_leadEnd, heard_leadEnd, he]
  have hroom' : (lineOrdered e f s).alive e.other = true → (lineOrdered e f s).roomFor (.line e.other) 1 := by
    rw [lineOrdered, takeOrder_alive, handSource_alive, heard_alive_other, ← lineOrdered, State.roomFor, port_lineOrdered,
      heard_queue]
    exact hroom
  rw [exec_heard rfl h (kind_ne_idle_of_accepted hacc), relay_outward _ (by simpa using hp) hacc (by simp [frameOf]) hl
    (by simpa using he) (by simpa using hrole)]
  show Host.Outcome.next (finish (forwardOutward (frameOf f .order []) (s.rateAt (.line e))
    (takeOrder (OrderData.ofPayload f.body) (handSource f.src _)))) = _
  rw [handSource_withScratch, takeOrder_withScratch, ← lineOrdered, ← forwarded_withScratch, forwardOutward_eq]
  · exact hp'
  · exact he'
  · rw [alive_withScratch]
    simpa only [State.roomFor, port_withScratch] using hroom'

/-- The state at the end of the event. -/
def lineOrderEnded (e : End) (f : LineFrame) (s : State) : State :=
  finish ((forwarded e (frameOf f .order []) (s.rateAt (.line e)) (lineOrdered e f s)).withScratch ⟨s.teff, false, none⟩)

theorem lineOrderEnded_stands : OrderStands (lineOrdered e f s) (lineOrderEnded e f s) := by
  refine finish_orderStands rfl ?_
  unfold State.withScratch
  rw [forwarded_lines]

theorem lineOrdered_alive : (lineOrdered e f s).alive e.other = s.alive e.other := by
  rw [lineOrdered, takeOrder_alive, handSource_alive, heard_alive_other]

theorem lineOrdered_position : (lineOrdered e f s).consist.position = s.consist.position := by
  rw [lineOrdered, takeOrder_consist, handSource_position, heard_position]

theorem port_lineOrderEnded (p : Port) : (lineOrderEnded e f s).port p =
    (forwarded e (frameOf f .order []) (s.rateAt (.line e)) (lineOrdered e f s)).port p :=
  (finish_port (s := State.withScratch _ _) rfl p).trans (port_withScratch ..)

/-- With a neighbour beyond it the node sends the ORDER on, at its own position as hop (R28). -/
theorem lineOrderEnded_queues (hal : s.alive e.other = true) : Queues (.line e.other)
    [⟨(frameOf f .order []).withHop s.consist.position, s.rateAt (.line e), false⟩] (heard (.line e) s)
    (lineOrderEnded e f s) := by
  rw [Queues, port_lineOrderEnded, ← port_lineOrdered (f := f), ← lineOrdered_position (e := e) (f := f)]
  exact forwarded_queues (lineOrdered_alive.trans hal)

/-- At the end node it is consumed (R32). -/
theorem lineOrderEnded_consumed (hal : s.alive e.other = false) :
    (lineOrderEnded e f s).port (.line e.other) = s.port (.line e.other) := by
  rw [port_lineOrderEnded, forwarded_absent (lineOrdered_alive.trans hal), port_lineOrdered,
    heard_port_ne _ _ (by simp)]

/-- What neither the relay engine nor the dispatcher touches. -/
theorem lineOrdered_rest : (lineOrdered e f s).items = s.items ∧ (lineOrdered e f s).lead = s.lead ∧
    (lineOrdered e f s).inputs = s.inputs ∧ (lineOrdered e f s).supplyLow = s.supplyLow ∧
    (lineOrdered e f s).consist.state = (heard (.line e) s).consist.state := by
  rw [lineOrdered, takeOrder_rest, handSource_eq]
  exact ⟨heard_items _ s, heard_lead _ s, heard_inputs _ s, heard_supplyLow _ s, rfl⟩

end lineOrder

/-! ### A release for train LEFT, whole train (R93) -/

section trainLeft

variable {s : State} {d : OrderData} {e : End} {c : Side}

theorem arguments_wholeTrain (hside : d.side = 0) (hfirst : d.first = 0) :
    argumentsGood d = true ∧ inRange d s = true := by
  simp [argumentsGood, rangeGood, inRange, hside, hfirst]

/-- Train LEFT is the one side that the orientation gives (R93). -/
theorem addressed_left (hside : d.side = 0) (hp : s.holdsPosition = true) (he : s.consist.leadEnd = some e)
    (hc : c = if e = .e1 then .a else .b) (c' : Side) : addressed d.side s c' = decide (c' = c) := by
  unfold addressed
  rw [hside, hp, he, hc]
  cases e <;> cases c' <;> rfl

/-- The answers of a node standing still whose left channel is LOCKED (R110). -/
theorem releaseResult_left (hside : d.side = 0) (hp : s.holdsPosition = true) (he : s.consist.leadEnd = some e)
    (hc : c = if e = .e1 then .a else .b) (hlocked : (s.channel c).state = .locked) (hz : s.active .zsp = true) (c' : Side) :
    s.releaseResult d.side c' = if c' = c then
      (if s.consist.state = .placed then .accepted else .refused .noConsist) else .notAddressed := by
  unfold State.releaseResult
  rw [addressed_left hside hp he hc]
  by_cases h : c' = c
  · simp [h, State.releaseAnswer, hlocked, hz]
  · simp [h]

end trainLeft

/-- The outputs of a channel in RELEASED: RELEASE on, CLOSE off, and the LOOP contact open (R106, R127). -/
theorem outputs_of_released {s : State} {c : Side} (hlow : s.supplyLow = false) (h : (s.channel c).state = .released) :
    s.output (.release c) = true ∧ s.output (.close c) = false ∧ s.output .loop = false := by
  have hsec : s.secured c = false := by rw [State.secured, h]; rfl
  have hdoors : s.doorsSecured = false := by
    unfold State.doorsSecured; cases c <;> simp [hsec]
  simp [State.output, hlow, h, hdoors]

/-- Settles O35: the order of the line, of which the release for train LEFT is one, and each channel's answer. -/
theorem releaseOpensTheNamedSide : Obligations.ReleaseOpensTheNamedSide := by
  unfold Obligations.ReleaseOpensTheNamedSide
  refine ⟨fun e f s k x c h hal hal' hps h1 h32 he hrole hacc hroom hsel hx hside hfirst hc hlocked hz => ?_,
    fun d s k x hsel hx hargs hr => ?_, fun e f s h hp h32 he hrole hacc hl hroom => ?_⟩
  · have hp := holdsPosition_of_placedOrStale hps
    have hl : (frameOf f .order []).leadward = false := by
      simp only [acceptedOnEnd, frameOf, Bool.and_eq_true, Bool.not_eq_true'] at hacc
      exact hacc.1.1
    obtain ⟨hitems, hlead, -, hlow, hstate⟩ := lineOrdered_rest (e := e) (f := f) (s := s)
    have hst := lineOrderEnded_stands (e := e) (f := f) (s := s)
    set u := heard (.line e) s with hu
    set d := OrderData.ofPayload f.body with hd
    have hch (c' : Side) : u.channel c' = s.channel c' := by unfold State.channel; rw [hu, heard_doors]
    have huc : u.consist = s.consist := heard_consist_of_alive hal
    have huz : u.active .zsp = true := by rw [← hz, State.active, State.input, hu, heard_inputs]; rfl
    have hres := releaseResult_left (s := u) (d := d) hside ((heard_holdsPosition _ s).trans hp)
      ((congrArg (·.leadEnd) huc).trans he) hc ((congrArg (·.state) (hch c)).trans hlocked) huz
    obtain ⟨hargs, hr⟩ := arguments_wholeTrain (s := u) (d := d) hside hfirst
    have hT := lineOrdered_eq (e := e) (f := f) (s := s)
    rw [takeOrder_released (s := u) ((selected_heard _ _ _).trans hsel) hx hargs hr] at hT
    have hchan (c' : Side) : (lineOrderEnded e f s).channel c' = u.releasedChannel d.side c' := by
      rw [hst.channel, hT]; cases c' <;> rfl
    have hlast := congrArg Dispatcher.last (hst.dispatch.trans (congrArg (·.dispatch) hT))
    refine ⟨lineOrderEnded e f s, _, exec_lineOrder h hp he hrole hacc hl (fun _ => hroom), fun hpl => ?_, fun hstl => ?_,
      fun c' hne => ?_, ?_, ?_, lineOrderEnded_queues hal', rfl, by rw [withHop_hop]; omega, rfl, withHop_checkGood _ _,
      hst.items.trans hitems, hst.lead.trans hlead, ?_⟩
    · have hreleased : (lineOrderEnded e f s).channel c =
          { u.channel c with state := .released, timer := none, retries := 0 } := by
        rw [hchan, State.releasedChannel, hres, if_pos rfl, huc, if_pos hpl, if_pos rfl]
      obtain ⟨hon, hoff, hloop⟩ := outputs_of_released (hst.supplyLow.trans (hlow.trans h.1)) (congrArg (·.state) hreleased)
      refine ⟨congrArg (·.state) hreleased, congrArg (·.retries) hreleased, hon, hoff, hloop, ?_⟩
      · rw [hlast]
        show doorOutcome (u.releaseResult d.side .a) (u.releaseResult d.side .b) = .done
        rw [hres, hres, huc, if_pos hpl]
        cases c <;> rfl
    · have hn : s.consist.state ≠ .placed := by rw [hstl]; decide
      refine ⟨?_, ?_, ?_⟩
      · rw [hchan, State.releasedChannel, hres, if_pos rfl, huc, if_neg hn, if_neg (by decide), hch]
      · rw [hlast]
        show doorOutcome (u.releaseResult d.side .a) (u.releaseResult d.side .b) = .refused
        rw [hres, hres, huc, if_neg hn]
        cases c <;> rfl
      · rw [hlast]
        refine Eq.trans (b := u.releaseResult d.side c) (by cases c <;> rfl) ?_
        rw [hres, if_pos rfl, huc, if_neg hn]
    · rw [hchan, State.releasedChannel, hres, if_neg hne, if_neg (by decide), hch]
    · rw [hlast]; rfl
    · rw [hlast]
      refine Eq.trans (b := u.releaseResult d.side (if c = .a then .b else .a)) (by cases c <;> rfl) ?_
      rw [hres]; cases c <;> rfl
    · rw [hst.consist, hstate, huc]
  · rw [takeOrder_released hsel hx hargs hr]
    refine ⟨fun c => ?_, fun c => ?_, ?_, rfl, rfl, rfl⟩
    · rw [← if_congr (releaseResult_eq_accepted s d.side c) rfl rfl]
      cases c <;> rfl
    · refine Eq.trans (b := s.releaseResult d.side c) (by cases c <;> rfl) ?_
      unfold State.releaseResult State.releaseAnswer
      cases addressed d.side s c <;> rfl
    · simp only [← releaseResult_eq_notAddressed]
      exact doorOutcome_eq _ _
  · obtain ⟨hitems, hlead, hinputs, -, -⟩ := lineOrdered_rest (e := e) (f := f) (s := s)
    have hst := lineOrderEnded_stands (e := e) (f := f) (s := s)
    have hT := lineOrdered_eq (e := e) (f := f) (s := s)
    refine ⟨lineOrderEnded e f s, exec_lineOrder h hp he hrole hacc hl hroom, hst.dispatch.trans (congrArg (·.dispatch) hT),
      fun c => (hst.channel c).trans ?_, hst.chime.trans (congrArg (·.doors.chime) hT),
      hst.cCmd.trans (congrArg (·.heat.cCmd) hT), fun hal => ?_, lineOrderEnded_consumed, hst.items.trans hitems,
      hst.lead.trans hlead, hst.inputs.trans hinputs⟩
    · rw [hT]; cases c <;> rfl
    · exact ⟨_, lineOrderEnded_queues hal, rfl, by rw [withHop_hop]; omega, (withHop_fields _ _).1.trans hl, rfl,
        withHop_checkGood _ _⟩

end Sys2Proof.Machine
end

section
/-! The statement about a HEAT SET (R25, R32, R149, R169). -/

namespace Sys2Proof.Machine

/-! ### A HEAT SET at the heating unit (R149, R169) -/

/-- A schedule left by the end of an event runs towards a stage within the effective target (R147, R150). -/
theorem settleHeat_raise {s : State} (h : (settleHeat s).heat.raise.isSome = true) :
    (settleHeat s).heat.level < s.teff := by
  unfold settleHeat at h ⊢
  dsimp only at h ⊢
  split_ifs at h ⊢ <;> simp_all [dropTo]
  omega

/-- The heating unit with the target, the holdover and the restart block that a HEAT SET gives (R149, R169). -/
def heatSetStarted (d : HeatSetData) (s : State) : State :=
  { s with heat := { s.heat with
    target := s.heatSetTarget d.cycle
    restartBlock := if s.heat.monitor = .normal then false else s.heat.restartBlock
    holdover := some (s.now + 1000 * s.itemN Item.holdover) } }

/-- The new raise schedule at the node's stagger, or what R146 and R147 give. -/
theorem takeHeatSet_cases (d : HeatSetData) (s : State) :
    let u := heatSetStarted d s
    let v := { u with scratch := { u.scratch with teff := u.teff } }
    (u.heat.level < u.teff ∧ u.heat.restartBlock = false ∧ takeHeatSet d s = { v with heat := { v.heat with
      raise := some ⟨s.now + s.consist.position * clampStagger d.stagger, false⟩ } }) ∨
    (¬ (u.heat.level < u.teff ∧ u.heat.restartBlock = false) ∧ takeHeatSet d s = settleHeat v) := by
  intro u v
  by_cases h : u.heat.level < u.teff ∧ u.heat.restartBlock = false
  · exact .inl ⟨h.1, h.2, if_pos h⟩
  · exact .inr ⟨h, if_neg h⟩

/-- A HEAT SET changes the heating unit alone, and notes the effective target it gives. -/
theorem takeHeatSet_eq (d : HeatSetData) (s : State) : takeHeatSet d s = { heatSetStarted d s with
    heat := { (heatSetStarted d s).heat with
      level := (takeHeatSet d s).heat.level, minOff := (takeHeatSet d s).heat.minOff
      raise := (takeHeatSet d s).heat.raise }
    scratch := { s.scratch with teff := (heatSetStarted d s).teff } } := by
  rcases takeHeatSet_cases d s with ⟨-, -, h⟩ | ⟨-, h⟩ <;> rw [h]
  · rfl
  · rw [settleHeat_eq]; rfl

theorem takeHeatSet_teff (d : HeatSetData) (s : State) : (takeHeatSet d s).teff = (heatSetStarted d s).teff := by
  rw [takeHeatSet_eq]; rfl

theorem takeHeatSet_level (d : HeatSetData) (s : State) :
    (takeHeatSet d s).heat.level = min s.heat.level (takeHeatSet d s).teff := by
  rw [takeHeatSet_teff]
  rcases takeHeatSet_cases d s with ⟨hlt, -, h⟩ | ⟨-, h⟩ <;> rw [h]
  · exact (min_eq_left (Nat.le_of_lt hlt)).symm
  · exact settleHeat_level _

/-- It leaves the energizer settled: a schedule runs only towards a stage within the effective target (R147, R150). -/
theorem takeHeatSet_raise (d : HeatSetData) (s : State) (hr : (takeHeatSet d s).heat.raise.isSome = true) :
    (takeHeatSet d s).heat.level < (takeHeatSet d s).teff := by
  rw [takeHeatSet_teff]
  rcases takeHeatSet_cases d s with ⟨hlt, -, h⟩ | ⟨-, h⟩ <;> rw [h] at hr ⊢
  · exact hlt
  · exact settleHeat_raise hr

theorem takeHeatSet_stagger (d : HeatSetData) (s : State) (h : s.heat.level < (takeHeatSet d s).teff)
    (hb : (takeHeatSet d s).heat.restartBlock = false) : (takeHeatSet d s).heat.raise =
      some ⟨s.now + s.consist.position * clampStagger d.stagger, false⟩ := by
  rw [takeHeatSet_teff] at h
  rw [takeHeatSet_eq] at hb
  rcases takeHeatSet_cases d s with ⟨-, -, h'⟩ | ⟨hn, -⟩
  · rw [h']
  · exact absurd ⟨h, hb⟩ hn

/-! ### The command -/

/-- The end of an event that has settled the energizer itself. -/
theorem finish_stable {s : State} (hd : s.scratch.statusDue = false) (ht : s.doors.tone.isSome = s.toneDemand)
    (hl : s.heat.level ≤ s.teff) (hr : s.heat.raise.isSome = true → s.heat.level < s.teff)
    (hs : s.scratch.teff = s.teff) : finish s = s.withScratch Scratch.rest := by
  unfold finish
  rw [settleTone_of ht, settleHeat_of hl hr hs, flushStatus_of hd]; rfl

/-- The event of a HEAT SET leaves what the heating unit and the relay engine have left: nothing is settled after them. -/
theorem finish_heatSet {d : HeatSetData} {s u t : State} (hr : s.atRest) (hd : u.doors = s.doors)
    (hs : u.scratch.statusDue = false) (ht : KeepsUnits (takeHeatSet d u) t) : finish t = t.withScratch Scratch.rest := by
  obtain ⟨hdoors, hheat, -, -, hscratch⟩ := id ht
  have hte : t.teff = (takeHeatSet d u).teff := ht.teff
  have hdoors' : t.doors = s.doors := by rw [hdoors, takeHeatSet_eq, ← hd]; rfl
  refine finish_stable ?_ ?_ ?_ ?_ ?_
  · rw [hscratch, takeHeatSet_eq]; exact hs
  · rw [toneDemand_congr hdoors', hdoors']; exact hr.2.1
  · rw [hheat, hte, takeHeatSet_level]; exact min_le_right _ _
  · rw [hheat, hte]; exact takeHeatSet_raise d u
  · rw [hscratch, hte, takeHeatSet_teff, takeHeatSet_eq]

/-- What a HEAT SET has given the heating unit (R149, R169). -/
structure HeatSetTaken (d : HeatSetData) (u t : State) : Prop where
  target : t.heat.target = u.heatSetTarget d.cycle
  holdover : t.heat.holdover = some (u.now + 1000 * u.itemN Item.holdover)
  level : t.heat.level = min u.heat.level t.teff
  restartBlock : t.heat.restartBlock = if u.heat.monitor = .normal then false else u.heat.restartBlock
  raise : t.heat.raise.isSome = true → t.heat.level < t.teff
  stagger : u.heat.level < t.teff → t.heat.restartBlock = false →
    t.heat.raise = some ⟨u.now + u.consist.position * clampStagger d.stagger, false⟩
  cycleRec : t.heat.cycleRec = u.heat.cycleRec
  grant : t.heat.grant = u.heat.grant

theorem heatSetTaken_of {d : HeatSetData} {u t : State} (ht : t.heat = (takeHeatSet d u).heat)
    (hte : t.teff = (takeHeatSet d u).teff) : HeatSetTaken d u t := by
  have h := takeHeatSet_eq d u
  constructor
  · rw [ht]; exact congrArg (·.heat.target) h
  · rw [ht]; exact congrArg (·.heat.holdover) h
  · rw [ht, hte]; exact takeHeatSet_level d u
  · rw [ht]; exact congrArg (·.heat.restartBlock) h
  · rw [ht, hte]; exact takeHeatSet_raise d u
  · rw [ht, hte]; exact takeHeatSet_stagger d u
  · rw [ht]; exact congrArg (·.heat.cycleRec) h
  · rw [ht]; exact congrArg (·.heat.grant) h

theorem takeHeatSet_rest (d : HeatSetData) (u : State) :
    { takeHeatSet d u with heat := u.heat, scratch := u.scratch } = u := by
  rw [takeHeatSet_eq]; rfl

theorem takeHeatSet_port (d : HeatSetData) (u : State) (p : Port) : (takeHeatSet d u).port p = u.port p := by
  rw [takeHeatSet_eq]; rcases p with (_ | _) | _ <;> rfl

theorem takeHeatSet_alive (d : HeatSetData) (u : State) (e : End) : (takeHeatSet d u).alive e = u.alive e := by
  rw [takeHeatSet_eq]; cases e <;> rfl

/-! ### At a node without a position (R25, R169) -/

section unplaced

variable (e : End) (f : LineFrame) (s : State)

/-- The state once a node without a position has taken the HEAT SET and passed it on (R25). -/
def heatSetPassed : State :=
  ((takeHeatSet (HeatSetData.ofPayload f.body) ((heard (.line e) s).withScratch ⟨s.teff, false, none⟩)).enqueue
    (.line e.other) ⟨frameOf f .heatSet [], s.rateAt (.line e), false⟩).withScratch Scratch.rest

variable {e f s}

theorem exec_heatSet_unplaced (h : Heard (.line e) (frameOf f .heatSet []) s) (hp : s.holdsPosition = false)
    (hacc : acceptedOnEnd (frameOf f .heatSet []) = true) (hroom : s.roomFor (.line e.other) 1) :
    exec (.heatSet (.line e) f) s = .next (heatSetPassed e f s) := by
  obtain ⟨u, hu⟩ : ∃ u : State, u = (heard (.line e) s).withScratch ⟨s.teff, false, none⟩ := ⟨_, rfl⟩
  obtain ⟨W, hW⟩ : ∃ W : State, W = takeHeatSet (HeatSetData.ofPayload f.body) u := ⟨_, rfl⟩
  have hup : ¬ u.holdsPosition = true := by
    rw [hu, withScratch_holdsPosition, heard_holdsPosition, hp]; decide
  have hroom' : W.roomFor (.line e.other) 1 := by
    rw [State.roomFor, hW, takeHeatSet_port, hu, port_withScratch, heard_queue]; exact hroom
  have hrelay : relay (.line e) (frameOf f .heatSet []) (s.rateAt (.line e)) u =
      W.enqueue (.line e.other) ⟨frameOf f .heatSet [], s.rateAt (.line e), false⟩ := by
    refine (if_neg hup).trans ?_
    show passOn e _ _ (if acceptedOnEnd (frameOf f .heatSet []) = true then takeHeatSet _ u else u) = _
    rw [if_pos hacc, passOn]
    refine Eq.trans ?_ (offer_room _ _ hroom')
    rw [hW]; rfl
  have hk := enqueue_keepsUnits (.line e.other) ⟨frameOf f .heatSet [], s.rateAt (.line e), false⟩ W
  rw [hW] at hk
  rw [exec_heard rfl h (kind_ne_idle_of_accepted hacc), ← hu, hrelay, hW,
    finish_heatSet h.2.1 (by rw [hu]; exact heard_doors _ s) (by rw [hu]; rfl) hk, heatSetPassed, ← hu]

end unplaced

/-! ### At a node with a position (R28, R32) -/

section placed

variable (e : End) (f : LineFrame) (s : State)

/-- The state once a node with a position has taken the HEAT SET and sent it on, or consumed it. -/
def heatSetForwarded : State :=
  (forwarded e (frameOf f .heatSet []) (s.rateAt (.line e)) (takeHeatSet (HeatSetData.ofPayload f.body)
    ((handSource f.src (heard (.line e) s)).withScratch ⟨s.teff, false, none⟩))).withScratch Scratch.rest

variable {e f s}

theorem exec_heatSet_placed (h : Heard (.line e) (frameOf f .heatSet []) s) (hp : s.holdsPosition = true)
    (he : s.consist.leadEnd = some e) (hrole : s.lead.role = false)
    (hacc : acceptedOnEnd (frameOf f .heatSet []) = true) (hroom : s.roomFor (.line e.other) 1) :
    exec (.heatSet (.line e) f) s = .next (heatSetForwarded e f s) := by
  have hl : (frameOf f .heatSet []).leadward = false := by
    simp only [acceptedOnEnd, frameOf, Bool.and_eq_true, Bool.not_eq_true'] at hacc
    exact hacc.1.1
  set u := (handSource f.src (heard (.line e) s)).withScratch ⟨s.teff, false, none⟩ with hu
  set W := takeHeatSet (HeatSetData.ofPayload f.body) u with hW
  have hc : W.consist = u.consist := congrArg (·.consist) (takeHeatSet_rest _ _)
  have hforward : forwardOutward (frameOf f .heatSet []) (s.rateAt (.line e)) W =
      forwarded e (frameOf f .heatSet []) (s.rateAt (.line e)) W := by
    refine forwardOutward_eq ?_ ?_ (fun _ => ?_)
    · rw [State.holdsPosition, hc]
      exact (handSource_holdsPosition _ _).trans ((heard_holdsPosition _ s).trans hp)
    · rw [hc, hu, withScratch_consist, handSource_leadEnd, heard_leadEnd, he]
    · rw [State.roomFor, hW, takeHeatSet_port, hu, port_withScratch, port_handSource, heard_queue]; exact hroom
  rw [exec_heard rfl h (kind_ne_idle_of_accepted hacc), relay_outward _ (by simpa using hp) hacc (by simp [frameOf]) hl
    (by simpa using he) (by simpa using hrole)]
  show Host.Outcome.next (finish (forwardOutward (frameOf f .heatSet []) (s.rateAt (.line e))
    (takeHeatSet (HeatSetData.ofPayload f.body) (handSource f.src _)))) = _
  rw [handSource_withScratch, ← hu, ← hW, hforward, finish_heatSet h.2.1 (u := u) (d := HeatSetData.ofPayload f.body)
    ?_ rfl forwarded_keepsUnits]
  · rfl
  · exact (handSource_keepsUnits _ _).1.trans (heard_doors _ s)

end placed

/-- All that a HEAT SET at a node with a position may change put back as in `s` (R11, R77, R169). -/
def State.beforeHeatSet (s x : State) : State := { x with
  pu1 := s.pu1, pu2 := s.pu2, end1 := s.end1, end2 := s.end2, heat := s.heat
  consist := { x.consist with leadLoss := s.consist.leadLoss }, scratch := Scratch.rest }

/-- A HEAT SET passed on has moved the ports and the heating unit alone (R25). -/
theorem onlyPorts_of_heatSet {H W t : State} {p : Port} {q : Queued} {heat : Heat} {sc c : Scratch}
    (hW : { W with heat := heat, scratch := sc } = H.withScratch c) (hH : H.scratch = Scratch.rest)
    (ht : t = (W.enqueue p q).withScratch Scratch.rest) : OnlyPorts { H with heat := t.heat } t := by
  have h := congrArg (fun x : State => { x with
    pu1 := H.pu1, pu2 := H.pu2, puC := H.puC, heat := t.heat, scratch := H.scratch }) hW
  refine Eq.trans ?_ h
  rw [hH, ht]
  rcases p with (_ | _) | _ <;> rfl

/-- Settles O43: a HEAT SET taken and sent on at a node with a position, and at one without. -/
theorem heatSetGivesTarget : Obligations.HeatSetGivesTarget := by
  unfold Obligations.HeatSetGivesTarget
  refine ⟨fun e f s h hal hp h32 he hrole hacc hroom => ?_, fun e f s h hp hacc hroom => ?_⟩
  · obtain ⟨u, hu⟩ : ∃ u : State, u = (handSource f.src (heard (.line e) s)).withScratch ⟨s.teff, false, none⟩ :=
      ⟨_, rfl⟩
    have hexec := exec_heatSet_placed h hp he hrole hacc hroom
    rw [heatSetForwarded, ← hu] at hexec
    obtain ⟨W, hW⟩ : ∃ W : State, W = takeHeatSet (HeatSetData.ofPayload f.body) u := ⟨_, rfl⟩
    rw [← hW] at hexec
    obtain ⟨t, hte⟩ : ∃ t : State, t = (forwarded e (frameOf f .heatSet []) (s.rateAt (.line e)) W).withScratch
      Scratch.rest := ⟨_, rfl⟩
    rw [← hte] at hexec
    have ht : HeatSetTaken (HeatSetData.ofPayload f.body) u t := heatSetTaken_of
      (by rw [hte, ← hW]; exact forwarded_keepsUnits.2.1) (by rw [hte, ← hW]; exact forwarded_keepsUnits.teff)
    have hheat : u.heat = s.heat := by rw [hu]; exact (handSource_keepsUnits _ _).2.1.trans (heard_heat _ s)
    have hitems : u.items = s.items := by
      rw [hu]; exact (handSource_keepsUnits _ _).2.2.2.1.trans (heard_items _ s)
    have hnow : u.now = s.now := by rw [hu, withScratch_now, handSource_eq]; exact heard_now _ s
    have hpos : u.consist.position = s.consist.position := by
      rw [hu, withScratch_consist, handSource_position, heard_position]
    have hup : u.holdsPosition = true := by
      rw [hu, withScratch_holdsPosition, handSource_holdsPosition, heard_holdsPosition, hp]
    have hWc : W.consist = u.consist := by rw [hW]; exact congrArg (·.consist) (takeHeatSet_rest _ u)
    have hWport (p : Port) : W.port p = (heard (.line e) s).port p := by
      rw [hW, takeHeatSet_port, hu, port_withScratch, port_handSource]
    have hWal : W.alive e.other = s.alive e.other := by
      rw [hW, takeHeatSet_alive, hu, alive_withScratch, handSource_alive, heard_alive_other]
    refine ⟨t, hexec, ?_, ?_, ?_, fun hn => ?_, fun hn => ?_, fun hlt hb => ?_, ?_, ?_, fun hal' => ?_, fun hal' => ?_, ?_⟩
    · rw [ht.target, State.heatSetTarget, hheat]
      exact if_congr (and_iff_right hup) rfl rfl
    · rw [ht.holdover, State.itemN, State.item, hitems, hnow]; rfl
    · rw [ht.level, hheat]
    · rw [ht.restartBlock, hheat, if_pos hn]
    · rw [ht.restartBlock, hheat, if_neg hn]
    · rw [ht.stagger (by rwa [hheat]) hb, hnow, hpos]; rfl
    · rw [ht.cycleRec, hheat]
    · rw [ht.grant, hheat]
    · refine ⟨(frameOf f .heatSet []).withHop W.consist.position, ?_, rfl, ?_, rfl, withHop_checkGood _ _⟩
      · rw [hte, Queues, port_withScratch]
        exact (forwarded_queues (hWal.trans hal')).of_port (hWport _)
      · rw [withHop_hop, hWc, hpos]; omega
    · rw [hte, port_withScratch, forwarded_absent (hWal.trans hal'), hWport, heard_port_ne _ _ (by simp)]
    · rw [hte]
      calc s.beforeHeatSet (forwarded e (frameOf f .heatSet []) (s.rateAt (.line e)) W)
        _ = s.beforeHeatSet W := by rw [forwarded_lines]; rfl
        _ = s.beforeHeatSet u := by rw [hW]; exact (congrArg s.beforeHeatSet (takeHeatSet_rest _ u) :)
        _ = s.beforeHeatSet (heard (.line e) s) := by rw [hu, handSource_eq]; rfl
        _ = s.beforeHeatSet s := (congrArg s.beforeHeatSet (heard_of_alive hal) :)
        _ = s := by rw [State.beforeHeatSet, ← h.2.1.1]
  · obtain ⟨u, hu⟩ : ∃ u : State, u = (heard (.line e) s).withScratch ⟨s.teff, false, none⟩ := ⟨_, rfl⟩
    obtain ⟨q, hq⟩ : ∃ q : Queued, q = ⟨frameOf f .heatSet [], s.rateAt (.line e), false⟩ := ⟨_, rfl⟩
    have hexec := exec_heatSet_unplaced h hp hacc hroom
    rw [heatSetPassed, ← hu, ← hq] at hexec
    rw [← hq]
    obtain ⟨W, hW⟩ : ∃ W : State, W = takeHeatSet (HeatSetData.ofPayload f.body) u := ⟨_, rfl⟩
    rw [← hW] at hexec
    obtain ⟨t, hte⟩ : ∃ t : State, t = (W.enqueue (.line e.other) q).withScratch Scratch.rest := ⟨_, rfl⟩
    rw [← hte] at hexec
    have ht : HeatSetTaken (HeatSetData.ofPayload f.body) u t := heatSetTaken_of
      (by rw [hte, ← hW]; exact enqueue_heat _ _ _) (by rw [hte, ← hW]; exact (enqueue_keepsUnits _ _ _).teff)
    have hheat : u.heat = s.heat := by rw [hu]; exact heard_heat _ s
    have hitems : u.items = s.items := by rw [hu]; exact heard_items _ s
    have hnow : u.now = s.now := by rw [hu]; exact heard_now _ s
    have htarget : t.heat.target = 0 := by
      have hup : ¬ u.holdsPosition = true := by
        rw [hu, withScratch_holdsPosition, heard_holdsPosition, hp]; decide
      rw [ht.target, State.heatSetTarget, if_neg fun hn => hup hn.1]
    have hteff : t.teff = 0 := by rw [State.teff, htarget, Nat.zero_min]
    have hWport (p : Port) : W.port p = (heard (.line e) s).port p := by
      rw [hW, takeHeatSet_port, hu, port_withScratch]
    refine ⟨t, hexec, htarget, ?_, ?_, ?_, ?_, ?_, ?_, ?_, ?_, ?_⟩
    · rw [ht.level, hteff, Nat.min_zero]
    · rw [← Option.not_isSome_iff_eq_none]
      exact fun hr => absurd (ht.raise hr) (by rw [hteff]; exact Nat.not_lt_zero _)
    · rw [ht.holdover, State.itemN, State.item, hitems, hnow]; rfl
    · rw [ht.restartBlock, hheat]
    · rw [ht.cycleRec, hheat]
    · rw [ht.grant, hheat]
    · rw [hte, Queues, port_withScratch]
      exact (queues_enqueue W (.line e.other) q).of_port (hWport _)
    · intro p hne
      rw [hte, port_withScratch, port_enqueue_ne _ _ _ hne, hWport]
    · have hWrest : { W with heat := u.heat, scratch := u.scratch } = u := by rw [hW]; exact takeHeatSet_rest _ u
      have hs : (heard (.line e) s).scratch = Scratch.rest := by rw [heard_scratch, h.2.1.1]
      exact onlyPorts_of_heatSet (hWrest.trans hu) hs (by rw [hte])

end Sys2Proof.Machine
end

section
/-! What a node stands as in its train and as a lead: the fields that the place and lead invariants read, and the
operations that leave them alone. The door unit's operations are said to change the door unit and the event set
alone. -/

namespace Sys2Proof.Machine

/-! ### The door unit touches the doors and the event set alone -/

/-- `t` is `s` but for the door unit and the event set. -/
def OnlyDoors (s t : State) : Prop := { t with doors := s.doors, events := s.events } = s

namespace OnlyDoors

variable {s t u : State}

theorem refl (s : State) : OnlyDoors s s := rfl

theorem trans (h : OnlyDoors s t) (h' : OnlyDoors t u) : OnlyDoors s u := by
  unfold OnlyDoors at *
  exact (congrArg (fun x : State => { x with doors := s.doors, events := s.events }) h').trans h

theorem ite {c : Prop} [Decidable c] (ht : OnlyDoors s t) (hu : OnlyDoors s u) : OnlyDoors s (if c then t else u) := by
  split <;> assumption

theorem consist (h : OnlyDoors s t) : t.consist = s.consist := congrArg (·.consist) h
theorem lead (h : OnlyDoors s t) : t.lead = s.lead := congrArg (·.lead) h
theorem heat (h : OnlyDoors s t) : t.heat = s.heat := congrArg (·.heat) h
theorem items (h : OnlyDoors s t) : t.items = s.items := congrArg (·.items) h
theorem inputs (h : OnlyDoors s t) : t.inputs = s.inputs := congrArg (·.inputs) h
theorem scratch (h : OnlyDoors s t) : t.scratch = s.scratch := congrArg (·.scratch) h
theorem port (h : OnlyDoors s t) (p : Port) : t.port p = s.port p := congrArg (·.port p) h
theorem input (h : OnlyDoors s t) (i : Input) : t.input i = s.input i := congrArg (·.input i) h

end OnlyDoors

theorem onlyDoors_raise (ev : Event) (s : State) : OnlyDoors s (raise ev s) := rfl
theorem onlyDoors_raiseIf (b : Bool) (ev : Event) (s : State) : OnlyDoors s (raiseIf b ev s) := by cases b <;> rfl
theorem onlyDoors_setChannel (s : State) (c : Side) (ch : Channel) : OnlyDoors s (s.setChannel c ch) := by
  cases c <;> rfl

section door

variable (c : Side) (n : Fin 4) (s : State)

theorem onlyDoors_enterFault (cause : FaultCause) : OnlyDoors s (enterFault c cause s) :=
  (onlyDoors_setChannel s c _).trans (onlyDoors_raise _ _)

theorem onlyDoors_enterRecycle : OnlyDoors s (enterRecycle c s) :=
  (onlyDoors_setChannel s c _).trans (onlyDoors_raise _ _)

theorem onlyDoors_enterLocked : OnlyDoors s (enterLocked c s) := onlyDoors_setChannel s c _
theorem onlyDoors_enterIsolated : OnlyDoors s (enterIsolated c s) := onlyDoors_setChannel s c _
theorem onlyDoors_clearCause : OnlyDoors s (clearCause c s) := onlyDoors_setChannel s c _
theorem onlyDoors_enterHold : OnlyDoors s (enterHold c s) := onlyDoors_setChannel s c _
theorem onlyDoors_enterWarning : OnlyDoors s (enterWarning c s) := onlyDoors_setChannel s c _

theorem onlyDoors_enterClosing : OnlyDoors s (enterClosing c s) :=
  .ite (onlyDoors_enterLocked c s) (onlyDoors_setChannel s c _)

theorem onlyDoors_closeExpired : OnlyDoors s (closeExpired c s) :=
  .ite (onlyDoors_enterRecycle c s) (onlyDoors_enterFault c s _)

theorem onlyDoors_zspLost : OnlyDoors s (zspLost s) := by
  have hw (d : Side) (t : State) (p : Prop) [Decidable p] : OnlyDoors t (if p then enterWarning d t else t) :=
    .ite (onlyDoors_enterWarning d t) (.refl t)
  exact ((hw .a s _).trans (hw .b _ _)).trans (onlyDoors_raiseIf _ _ _)

theorem onlyDoors_leafOpens : OnlyDoors s (leafOpens c n s) := .ite (onlyDoors_enterFault c s _) (.refl s)
theorem onlyDoors_leafCloses : OnlyDoors s (leafCloses c n s) := .ite (onlyDoors_enterLocked c s) (.refl s)
theorem onlyDoors_isolateOn : OnlyDoors s (isolateOn c s) := .ite (.refl s) (onlyDoors_enterIsolated c s)

theorem onlyDoors_leaveIsolated : OnlyDoors s (leaveIsolated c s) :=
  .ite (onlyDoors_enterLocked c s) (onlyDoors_enterFault c s _)

theorem onlyDoors_isolateOff : OnlyDoors s (isolateOff c s) := .ite (onlyDoors_leaveIsolated c s) (.refl s)

theorem onlyDoors_tryEndHold : OnlyDoors s (tryEndHold c s) :=
  .ite (.ite ((onlyDoors_enterIsolated c s).trans (onlyDoors_clearCause c _))
    (.ite ((onlyDoors_enterLocked c s).trans (onlyDoors_clearCause c _)) (onlyDoors_enterFault c s _))) (.refl s)

theorem onlyDoors_leafSettled (level : Bool) : OnlyDoors s (leafSettled c n level s) :=
  .ite (onlyDoors_tryEndHold c s) (.ite (onlyDoors_leafCloses c n s) (onlyDoors_leafOpens c n s))

theorem onlyDoors_leafCountWritten (old : Nat) : OnlyDoors s (leafCountWritten c old s) := by
  refine .ite ?_ (.ite (.ite (onlyDoors_enterHold c s) (.ite (.refl s) (onlyDoors_leaveIsolated c s)))
    (.ite (.refl s) (.ite (onlyDoors_tryEndHold c s) ?_)))
  · exact OnlyDoors.trans (.ite (onlyDoors_clearCause c s) (.refl s)) (onlyDoors_enterIsolated c _)
  · split
    · exact .ite (onlyDoors_enterFault c s _) (.refl s)
    · exact .ite (onlyDoors_enterLocked c s) (.refl s)
    all_goals exact .refl s

end door

/-! ### A node's standing -/

/-- A node's place in its train, and what it runs as a lead. -/
structure Standing where
  identity : Identity
  state : ConsistState
  position : Nat
  leadEnd : Option End
  table : ConsistTable
  length : Nat
  check : Word
  placing : Timer
  role : Bool
  leadState : LeadState
  period : Timer
  outstanding : Option Byte
  periodTimer : Timer
  passTimer : Timer
  cycle : Option Cycle

def State.standing (s : State) : Standing :=
  ⟨s.identity, s.consist.state, s.consist.position, s.consist.leadEnd, s.consist.table, s.consist.length,
    s.consist.check, s.consist.placing, s.lead.role, s.lead.state, s.survey.period, s.survey.outstanding,
    s.seq.periodTimer, s.seq.passTimer, s.seq.cycle⟩

/-- A choice between two states of one standing. -/
theorem standing_ite {c : Prop} [Decidable c] {a b s : State} (ha : a.standing = s.standing)
    (hb : b.standing = s.standing) : (if c then a else b).standing = s.standing := by
  split <;> assumption

theorem OnlyDoors.standing {s t : State} (h : OnlyDoors s t) : t.standing = s.standing := congrArg (·.standing) h

/-! ### State, ports and ends -/

@[simp] theorem standing_raise (ev : Event) (s : State) : (raise ev s).standing = s.standing := rfl
@[simp] theorem standing_raiseIf (b : Bool) (ev : Event) (s : State) : (raiseIf b ev s).standing = s.standing := by
  cases b <;> rfl
@[simp] theorem standing_reach (s : State) (d : Nat) : (s.reach d).standing = s.standing := rfl
@[simp] theorem standing_withScratch (s : State) (c : Scratch) : (s.withScratch c).standing = s.standing := rfl
@[simp] theorem standing_setPort (s : State) (p : Port) (u : PortUnit) : (s.setPort p u).standing = s.standing := by
  rcases p with (_ | _) | _ <;> rfl
@[simp] theorem standing_setEnd (s : State) (e : End) (u : EndUnit) : (s.setEnd e u).standing = s.standing := by
  cases e <;> rfl
@[simp] theorem standing_setComparison (s : State) (e : End) (c : Comparison) :
    (s.setComparison e c).standing = s.standing := by cases e <;> rfl
@[simp] theorem standing_setInput (s : State) (i : Input) (l : InputLine) :
    (s.setInput i l).standing = s.standing := rfl

@[simp] theorem standing_offerQueued (p : Port) (q : Queued) (s : State) :
    (offerQueued p q s).standing = s.standing := by
  rcases offerQueued_cases p q s with ⟨-, e⟩ | ⟨-, e⟩ <;> simp [e]

@[simp] theorem standing_offer (p : Port) (f : Frame) (r : LineRate) (s : State) :
    (offer p f r s).standing = s.standing := standing_offerQueued _ _ s

@[simp] theorem standing_offerEnd (e : Option End) (f : Frame) (r : LineRate) (s : State) :
    (offerEnd e f r s).standing = s.standing := by
  cases e
  · rfl
  · exact standing_offer _ f r s

@[simp] theorem standing_restartIdle (p : Port) (s : State) : (restartIdle p s).standing = s.standing := by
  cases p
  · exact standing_setEnd _ _ _
  · rfl

@[simp] theorem standing_dropFrame (p : Port) (next : RxState) (s : State) :
    (dropFrame p next s).standing = s.standing := by simp [dropFrame]

/-- An expiry whose effect leaves the standing alone does so itself. -/
theorem standing_onExpiry (t : Timer) (f : State → State) (s : State) (h : ∀ s, (f s).standing = s.standing) :
    (onExpiry t f s).standing = s.standing := by
  cases t <;> simp [h]

/-- The same for a channel's timer. -/
theorem standing_onChannelTimer (c : Side) (st : DoorState) (f : State → State) (s : State)
    (h : ∀ s, (f s).standing = s.standing) : (onChannelTimer c st f s).standing = s.standing :=
  standing_ite (standing_onExpiry _ f s h) rfl

/-! ### Doors and orders -/

@[simp] theorem standing_settleTone (s : State) : (settleTone s).standing = s.standing := by
  rw [settleTone_eq]; rfl

@[simp] theorem standing_tonePhaseExpired (s : State) : (tonePhaseExpired s).standing = s.standing := by
  unfold tonePhaseExpired; split
  · rfl
  · split <;> rfl

theorem standing_chime (s : State) : (chime 0 s).standing = s.standing := rfl

@[simp] theorem standing_takeOrder (d : OrderData) (s : State) : (takeOrder d s).standing = s.standing := by
  rw [takeOrder_rest]; rfl

@[simp] theorem standing_storeItems (start : Nat) (values : List Word) (s : State) :
    (storeItems start values s).standing = s.standing := by
  have hw (old t : State) (c : Side) : (writeLeafCount start values.length old c t).standing = t.standing :=
    standing_ite (onlyDoors_leafCountWritten c t _).standing rfl
  have hn (t : State) : (raiseNoticed start values.length t).standing = t.standing := by
    simp [raiseNoticed, conditionEvents]
  simp only [storeItems, hn, hw]; rfl

/-! ### The heating unit -/

@[simp] theorem standing_settleHeat (s : State) : (settleHeat s).standing = s.standing := by
  rw [settleHeat_eq]; rfl

@[simp] theorem standing_takeHeatSet (d : HeatSetData) (s : State) : (takeHeatSet d s).standing = s.standing := by
  rw [takeHeatSet_eq]; rfl

@[simp] theorem standing_energize (s : State) : (energize s).standing = s.standing := standing_ite rfl rfl

@[simp] theorem standing_dueArrives (s : State) : (dueArrives s).standing = s.standing := by
  unfold dueArrives; split
  · rfl
  · exact standing_ite rfl (standing_ite (standing_energize _) rfl)

@[simp] theorem standing_minOffExpired (i : Nat) (s : State) : (minOffExpired i s).standing = s.standing := by
  unfold minOffExpired; dsimp only; split
  · exact standing_ite (standing_energize _) rfl
  · rfl

theorem standing_holdoverExpired (s : State) : (holdoverExpired s).standing = s.standing := rfl

@[simp] theorem standing_applyThresholds (s : State) : (applyThresholds s).standing = s.standing := by
  unfold applyThresholds; split <;> exact standing_ite rfl rfl

@[simp] theorem standing_supplySample (v : Nat) (s : State) : (supplySample v s).standing = s.standing :=
  standing_ite (standing_applyThresholds _) rfl

@[simp] theorem standing_computePass (d : PassData) (s : State) : (computePass d s).2.standing = s.standing := by
  have hu : (updateRecord d s).1.standing = s.standing := by
    unfold updateRecord; split_ifs <;> rfl
  have hg (t : State) : (decideGrant d t).2.standing = t.standing := by
    rcases decideGrant_cases d t with ⟨-, -, -, e⟩ | ⟨-, e⟩ | e <;> exact congrArg (·.2.standing) e
  unfold computePass; split
  · split <;> simp_all
  · rfl

/-! ### The line -/

@[simp] theorem standing_loseLock (p : Port) (next : RxState) (s : State) :
    (loseLock p next s).standing = s.standing := (congrArg State.standing (loseLock_rest p next s) :)

@[simp] theorem standing_hearSync (p : Port) (bitTime : Nat) (c : Character) (s : State) :
    (hearSync p bitTime c s).standing = s.standing := by
  have hr (t : State) : (restartLock p t).standing = t.standing := by cases p <;> rfl
  have ht (r : LineRate) : (takeSync p r s).standing = s.standing :=
    standing_ite ((hr _).trans (standing_setPort s p _)) (standing_setPort s p _)
  refine standing_ite ?_ rfl
  split
  · exact ht _
  · exact standing_dropFrame p _ s

@[simp] theorem standing_takeBreak (p : Port) (spaceBits : Nat) (s : State) :
    (takeBreak p spaceBits s).standing = s.standing := by
  refine standing_ite ?_ rfl
  rw [watchBreak_eq]
  show ((loseLock p .discarding s).setPort p _).standing = _
  rw [standing_setPort, standing_loseLock]

@[simp] theorem standing_lineError (p : Port) (s : State) : (lineError p s).standing = s.standing := by
  simp [lineError]

@[simp] theorem standing_compareEnd (e : End) (s : State) : (compareEnd e s).standing = s.standing := by
  rcases compareEnd_cases e s with h | ⟨c, evs, h⟩ <;> rw [h]
  exact standing_setComparison s e c

@[simp] theorem standing_holdOffExpired (s : State) : (holdOffExpired s).standing = s.standing := by
  rw [holdOffExpired, standing_compareEnd, standing_compareEnd]; rfl

/-! ### The end of an event -/

@[simp] theorem standing_flushStatus (s : State) : (flushStatus s).standing = s.standing := by
  refine standing_ite ?_ rfl
  rw [standing_offer]
  cases h : s.scratch.missed with
  | none => rw [flushMiss_none h]
  | some u => rw [flushMiss_some h, standing_offer]

@[simp] theorem standing_finish (s : State) : (finish s).standing = s.standing :=
  (standing_flushStatus _).trans ((standing_settleHeat _).trans (standing_settleTone s))

end Sys2Proof.Machine
end

section
/-! Every step keeps a node's place with its consist state, and what the lead runs with its lead state (R43, R44, R48,
R69, R78, R157, R161): the invariants as one predicate on the standing, and each operation that moves the standing. -/

namespace Sys2Proof.Machine

/-! ### A table that holds the node's own record (R69) -/

/-- A table with the record of identity `id` at position `p`, and no identity twice. -/
structure TableOf (p : Nat) (id : Identity) (t : ConsistTable) : Prop where
  own : (recordAt t p).map (·.identity) = some id
  unique : ∀ q r x y, recordAt t q = some x → recordAt t r = some y → x.identity = y.identity → q = r

/-- Only the positions 1..32 hold records. -/
theorem recordAt_range {t : ConsistTable} {p : Nat} {x : CoachRecord} (h : recordAt t p = some x) : 1 ≤ p ∧ p ≤ 32 := by
  rcases Nat.eq_zero_or_pos p with h0 | h1
  · simp [recordAt, h0] at h
  · refine ⟨h1, ?_⟩
    by_contra hp
    rw [recordAt_eq t h1, List.getElem?_eq_none (by rw [t.size]; omega)] at h
    cases h

theorem tableOf_tableWith {p : Nat} {r : CoachRecord} (h1 : 1 ≤ p) (h32 : p ≤ 32) :
    TableOf p r.identity (tableWith p r) where
  own := by rw [recordAt_tableWith r h1 h1 h32, if_pos rfl]; rfl
  unique a b x y ha hb _ := by
    have at_p {q : Nat} {z : CoachRecord} (h : recordAt (tableWith p r) q = some z) : q = p := by
      obtain ⟨hq1, hq2⟩ := recordAt_range h
      by_contra hne
      rw [recordAt_tableWith r h1 hq1 hq2, if_neg hne] at h; cases h
    exact (at_p ha).trans (at_p hb).symm

/-- The table of a node that has just taken its position (R48, R61). -/
theorem tableOf_ownRecord {p : Nat} (e : End) (s : State) (h1 : 1 ≤ p) (h32 : p ≤ 32) :
    TableOf p s.identity (tableWith p (ownRecord p e s)) :=
  tableOf_tableWith (r := ownRecord p e s) h1 h32

/-- A record of another identity stored at another position (R49, R63). -/
theorem TableOf.storeRecord {p q : Nat} {id : Identity} {t : ConsistTable} {r : CoachRecord} (h : TableOf p id t)
    (h1 : 1 ≤ q) (h32 : q ≤ 32) (hpos : q ≠ p) (hid : r.identity ≠ id) : TableOf p id (storeRecord q r t) where
  own := by
    obtain ⟨x, hx, hxid⟩ := Option.map_eq_some_iff.1 h.own
    obtain ⟨hp1, hp2⟩ := recordAt_range hx
    rw [recordAt_storeRecord t r h1 h32 hp1 hp2, if_neg hpos.symm, hx]
    simp [Option.filter, hxid, hid.symm]
  unique a b x y ha hb hxy := by
    obtain ⟨ha1, ha2⟩ := recordAt_range ha
    obtain ⟨hb1, hb2⟩ := recordAt_range hb
    rw [recordAt_storeRecord t r h1 h32 ha1 ha2] at ha
    rw [recordAt_storeRecord t r h1 h32 hb1 hb2] at hb
    split at ha <;> split at hb
    · omega
    · cases ha; simp [Option.filter_eq_some_iff, hxy] at hb
    · cases hb; simp [Option.filter_eq_some_iff, hxy] at ha
    · exact h.unique a b x y (Option.filter_eq_some_iff.1 ha).1 (Option.filter_eq_some_iff.1 hb).1 hxy

/-- The table cut behind the node's own position or beyond it. -/
theorem TableOf.keep {p n : Nat} {id : Identity} {t : ConsistTable} (h : TableOf p id t) (hn : p ≤ n) :
    TableOf p id (t.keep n none) where
  own := by
    obtain ⟨x, hx, hxid⟩ := Option.map_eq_some_iff.1 h.own
    obtain ⟨hp1, hp2⟩ := recordAt_range hx
    rw [recordAt_keep t hp1 hp2, if_pos hn, hx, Option.map_some, hxid]
  unique a b x y ha hb := by
    have kept {q : Nat} {z : CoachRecord} (hq : recordAt (t.keep n none) q = some z) : recordAt t q = some z := by
      obtain ⟨hq1, hq2⟩ := recordAt_range hq
      rw [recordAt_keep t hq1 hq2] at hq
      split at hq
      · exact hq
      · cases hq
    exact h.unique a b x y (kept ha) (kept hb)

/-! ### The invariants on a standing -/

namespace Standing

/-- The node holds a position (R23). -/
def Placed (x : Standing) : Prop := x.state = .placing ∨ x.state = .placed ∨ x.state = .stale

/-- A roll call is in flight. -/
def RollCall (x : Standing) : Prop :=
  x.leadState = .calling ∨ x.leadState = .rostering ∨ x.leadState = .confirming

/-- Nothing runs that LEADING alone runs (R78, R157). -/
def Quiet (x : Standing) : Prop :=
  x.period = none ∧ x.outstanding = none ∧ x.periodTimer = none ∧ x.passTimer = none ∧ x.cycle = none

/-- What a node with a position holds (R43, R69). -/
def Place (x : Standing) : Prop :=
  1 ≤ x.position ∧ x.position ≤ 32 ∧ x.leadEnd.isSome = true ∧ TableOf x.position x.identity x.table

/-- A node without a position holds nothing of it (R44). -/
def NoPlace (x : Standing) : Prop :=
  x.position = 0 ∧ x.leadEnd = none ∧ x.table = emptyTable ∧ x.length = 0 ∧ x.check = 0

/-- The place and lead invariants. -/
structure Good (x : Standing) : Prop where
  place : x.Placed → x.Place
  noPlace : ¬ x.Placed → x.NoPlace
  quiet : x.leadState ≠ .leading → x.Quiet
  standby : x.role = false → x.leadState = .standby
  rollCall : x.RollCall → x.state = .placing ∧ x.position = 1 ∧ x.placing = none

/-- What a roll call needs of a node, whatever its lead state is about to be (R45, R48). -/
structure Calls (x : Standing) : Prop where
  place : x.Place
  state : x.state = .placing
  position : x.position = 1
  placing : x.placing = none
  role : x.role = true
  quiet : x.Quiet

/-- What LEADING runs stopped (R78, R161). -/
def stopped (x : Standing) : Standing :=
  { x with period := none, outstanding := none, periodTimer := none, passTimer := none, cycle := none }

/-- The position given up (R44, R67). -/
def without (x : Standing) (st : ConsistState) : Standing :=
  { x with state := st, position := 0, leadEnd := none, table := emptyTable, length := 0, check := 0, placing := none }

variable {x : Standing}

theorem Good.calls (h : x.Good) (hr : x.RollCall) : x.Calls := by
  obtain ⟨hst, hpos, htimer⟩ := h.rollCall hr
  refine ⟨h.place (.inl hst), hst, hpos, htimer, ?_, h.quiet ?_⟩
  · cases hrole : x.role with
    | true => rfl
    | false =>
      have := h.standby hrole
      unfold RollCall at hr; simp [this] at hr
  · rintro hl; unfold RollCall at hr; simp [hl] at hr

/-- Such a node is as the invariants ask in every lead state. -/
theorem Calls.good (h : x.Calls) : x.Good where
  place _ := h.place
  noPlace hn := absurd (.inl h.state) hn
  quiet _ := h.quiet
  standby hf := by rw [h.role] at hf; cases hf
  rollCall _ := ⟨h.state, h.position, h.placing⟩

/-- The lead state is no part of what a roll call needs. -/
theorem Calls.lead (h : x.Calls) (st : LeadState) : { x with leadState := st }.Calls :=
  ⟨h.place, h.state, h.position, h.placing, h.role, h.quiet⟩

/-- A node with the lead role that leaves LEADING or a roll call for `st`, a state of rest. -/
theorem Good.rest (h : x.Good) (hq : x.Quiet) (st : LeadState) (hst : st = .standby ∨ x.role = true ∧ st = .failed) :
    { x with leadState := st }.Good where
  place := h.place
  noPlace := h.noPlace
  quiet _ := hq
  standby hf := by
    rcases hst with hst | ⟨hrole, -⟩
    · exact hst
    · exact absurd (hrole.symm.trans hf) (by decide)
  rollCall hr := by unfold RollCall at hr; rcases hst with hst | ⟨-, hst⟩ <;> simp [hst] at hr

theorem Good.stopped (h : x.Good) : x.stopped.Good :=
  ⟨h.place, h.noPlace, fun _ => ⟨rfl, rfl, rfl, rfl, rfl⟩, h.standby, h.rollCall⟩

/-- Out of a roll call the PLACING timer may run or not (R65). -/
theorem Good.timer (h : x.Good) (hr : ¬ x.RollCall) (t : Timer) : { x with placing := t }.Good :=
  ⟨h.place, h.noPlace, h.quiet, h.standby, fun hc => absurd hc hr⟩

/-- Out of a roll call the position may be given up. -/
theorem Good.without (h : x.Good) (hr : ¬ x.RollCall) {st : ConsistState} (hst : st = .unplaced ∨ st = .conflict) :
    (x.without st).Good where
  place hp := by
    simp only [Placed, Standing.without] at hp
    rcases hst with rfl | rfl <;> simp at hp
  noPlace _ := ⟨rfl, rfl, rfl, rfl, rfl⟩
  quiet := h.quiet
  standby := h.standby
  rollCall hc := absurd hc hr

/-- A node in PLACED becomes STALE (R76). -/
theorem Good.stale (h : x.Good) (hp : x.state = .placed) : { x with state := .stale }.Good where
  place _ := h.place (.inr (.inl hp))
  noPlace hn := absurd (.inr (.inr rfl)) hn
  quiet := h.quiet
  standby := h.standby
  rollCall hc := by have := (h.rollCall hc).1; rw [hp] at this; cases this

/-- In LEADING surveys and cycles may run as they please. -/
theorem Good.leading (h : x.Good) (hl : x.leadState = .leading) (t o p q c) :
    { x with period := t, outstanding := o, periodTimer := p, passTimer := q, cycle := c }.Good :=
  ⟨h.place, h.noPlace, fun hn => absurd hl hn, h.standby, h.rollCall⟩

/-- A lead in LEADING has the role (R45). -/
theorem Good.role (h : x.Good) (hl : x.leadState ≠ .standby) : x.role = true := by
  cases hrole : x.role with
  | true => rfl
  | false => exact absurd (h.standby hrole) hl

/-- A table that still holds the node's own record at its place, whatever N and the check. -/
theorem Good.table (h : x.Good) (hp : x.Placed) {t : ConsistTable} (ht : TableOf x.position x.identity t) (n : Nat)
    (k : Word) : { x with table := t, length := n, check := k }.Good := by
  obtain ⟨h1, h32, he, -⟩ := h.place hp
  exact ⟨fun _ => ⟨h1, h32, he, ht⟩, fun hn => absurd hp hn, h.quiet, h.standby, h.rollCall⟩

end Standing

theorem placed_iff (s : State) : s.standing.Placed ↔ s.holdsPosition = true := by
  simp [Standing.Placed, State.standing, State.holdsPosition, or_assoc]

/-- The predicate on the standing is the two invariants. -/
theorem good_iff (s : State) : s.standing.Good ↔ s.placeInv ∧ s.leadInv := by
  constructor
  · intro ⟨hp, hn, hq, hs, hr⟩
    rw [placed_iff] at hp hn
    refine ⟨⟨fun h => ?_, fun p q x y hx hy hxy => ?_, fun h => hn (by simp [h])⟩, hq, hs, hr⟩
    · obtain ⟨h1, h32, he, ht⟩ := hp h
      exact ⟨h1, h32, he, ht.own⟩
    · cases h : s.holdsPosition with
      | true => exact (hp h).2.2.2.unique p q x y hx hy hxy
      | false =>
        have he : s.consist.table = emptyTable := (hn (by simp [h])).2.2.1
        rw [he, recordAt_empty] at hx; cases hx
  · intro ⟨⟨hp, hu, hn⟩, hq, hs, hr⟩
    refine ⟨fun h => ?_, fun h => hn ?_, hq, hs, hr⟩
    · obtain ⟨h1, h32, he, ht⟩ := hp ((placed_iff s).1 h)
      exact ⟨h1, h32, he, ht, hu⟩
    · rw [placed_iff] at h; simpa using h

theorem good_of_standing {s t : State} (e : t.standing = s.standing) (h : s.standing.Good) : t.standing.Good := by
  rwa [e]

/-- A choice between two states that are both good. The proofs below follow the choices of each definition with it, in the
definition's order. -/
theorem good_ite {c : Prop} [Decidable c] {a b : State} (ha : c → a.standing.Good) (hb : ¬ c → b.standing.Good) :
    (if c then a else b).standing.Good := by
  split
  · exact ha ‹_›
  · exact hb ‹_›

/-! ### The consist unit -/

theorem standing_enterStale_of {s : State} (h : s.consist.state = .placed) :
    (enterStale s).standing = { s.standing with state := .stale } := by
  rw [enterStale, if_pos h]; rfl

theorem enterStale_good {s : State} (h : s.standing.Good) : (enterStale s).standing.Good := by
  rcases enterStale_cases s with ⟨hp, -⟩ | ⟨-, e⟩
  · rw [standing_enterStale_of hp]; exact h.stale hp
  · rwa [e]

theorem leadLossExpired_good {s : State} (h : s.standing.Good) : (leadLossExpired s).standing.Good := by
  rw [leadLossExpired, standing_raise]; exact enterStale_good h

theorem presenceChanged_good {e : End} {s : State} (h : s.standing.Good) : (presenceChanged e s).standing.Good := by
  rw [presenceChanged, standing_compareEnd]; exact enterStale_good h

theorem returnToUnplaced_good {s : State} (h : s.standing.Good) (hr : ¬ s.standing.RollCall) :
    (returnToUnplaced s).standing.Good := by
  rcases returnToUnplaced_cases s with ⟨-, e⟩ | ⟨-, e⟩ <;> rw [e]
  · exact h
  · exact h.without hr (.inl rfl)

theorem handSource_good {src : Byte} {s : State} (h : s.standing.Good) : (handSource src s).standing.Good := by
  rw [handSource_eq]; exact h

/-- A ROSTER's entries pass over the node's own position and its own identity (R63). -/
theorem rosterEntries_tableOf {s : State} {p : Nat} {rs : List CoachRecord} {t : ConsistTable}
    (ht : TableOf s.consist.position s.identity t) :
    TableOf s.consist.position s.identity (rosterEntries s p rs t) := by
  induction rs generalizing p t with
  | nil => exact ht
  | cons r rest ih =>
    refine ih ?_
    unfold rosterEntry; split
    · exact ht
    · next hn =>
      simp only [not_or, maxPosition] at hn
      obtain ⟨h0, h32, hpos, hid⟩ := hn
      exact ht.storeRecord (by omega) (by omega) hpos hid

theorem takeRoster_good {l : List Byte} {s : State} (h : s.standing.Good) : (takeRoster l s).standing.Good := by
  refine good_ite (fun hp => ?_) fun _ => h
  obtain ⟨-, -, -, ht⟩ := h.place (.inl hp)
  exact h.table (.inl hp) (rosterEntries_tableOf ht) _ _

/-- A CONFIRM at a node without the lead role: it holds its own record within the N it agrees with (R64). -/
theorem takeConfirm_good {d : ConfirmData} {s : State} (h : s.standing.Good) (hrole : s.lead.role = false) :
    (takeConfirm d s).2.standing.Good := by
  have hr : ¬ s.standing.RollCall := by
    have : s.standing.leadState = .standby := h.standby hrole
    simp [Standing.RollCall, this]
  unfold takeConfirm; split
  · next hp =>
    split
    · next ha =>
      obtain ⟨h1, h32, he, ht⟩ := h.place (.inl hp)
      obtain ⟨-, -, hn, -⟩ := confirmAgrees_iff.1 ha
      exact ⟨fun _ => ⟨h1, h32, he, ht.keep hn⟩, fun hn => absurd (.inr (.inl rfl)) hn, h.quiet, h.standby,
        fun hc => absurd hc hr⟩
    · exact h.timer hr _
  · exact h

theorem takeSurvey_good {hop : Nat} {d : SurveyData} {s : State} (h : s.standing.Good) :
    (takeSurvey hop d s).2.standing.Good := good_ite (fun _ => h) fun _ => enterStale_good h

/-- A CALL places a node that has nothing of a lead (R61). -/
theorem placeByCall_good {e : End} {f : Frame} {r : LineRate} {s : State} (h : s.standing.Good)
    (hrole : s.lead.role = false) : (placeByCall e f r s).standing.Good := by
  have hr : ¬ s.standing.RollCall := by
    have : s.standing.leadState = .standby := h.standby hrole
    simp [Standing.RollCall, this]
  have hs (e : End) (d : TailData) (t : State) : (sendTail e d t).standing = t.standing := standing_offer _ _ _ t
  refine good_ite (fun _ => h) fun h0 => good_ite (fun _ => ?_) fun h32 => ?_
  · rw [hs]; exact returnToUnplaced_good h hr
  · have hp : (placedBy e (f.hop + 1) s).standing.Good := by
      unfold maxPosition at h32
      have h1 : 1 ≤ f.hop + 1 := by omega
      have h2 : f.hop + 1 ≤ 32 := by omega
      exact ⟨fun _ => ⟨h1, h2, rfl, tableOf_ownRecord e s h1 h2⟩, fun hn => absurd (.inl rfl) hn, h.quiet, h.standby,
        fun hc => absurd hc hr⟩
    exact good_ite (fun _ => by rw [standing_offer, standing_offer]; exact hp)
      fun _ => by rw [hs, standing_offer]; exact hp

/-! ### The allocation sequencer -/

@[simp] theorem standing_originate (k : Kind) (l : List Byte) (s : State) : (originate k l s).standing = s.standing :=
  standing_ite rfl (standing_offerEnd _ _ _ s)

theorem standing_completeCycle (c : Cycle) (f : Reflected) (s : State) :
    (completeCycle c f s).standing = { s.standing with passTimer := none, cycle := none } := by
  have h : (takeHeatSet ⟨s.seq.number, s.item Item.stagger⟩
      (originate .heatSet (HeatSetData.payload ⟨s.seq.number, s.item Item.stagger⟩) s)).standing = s.standing := by
    rw [standing_takeHeatSet, standing_originate]
  rw [← h]; rfl

/-- The levels of a cycle move the cycle and its pass timer alone. -/
theorem standing_sendLevels (fuel : Nat) (c : Cycle) (r : Word) (s : State) : ∃ t q,
    (sendLevels fuel c r s).standing = { s.standing with passTimer := t, cycle := q } := by
  induction fuel generalizing c r s with
  | zero => exact ⟨_, _, rfl⟩
  | succ n ih =>
    unfold sendLevels
    have hp := standing_computePass ⟨s.seq.number, byteOf c.level, r, 0, 0, byteOf c.demand⟩ s
    cases hcp : computePass ⟨s.seq.number, byteOf c.level, r, 0, 0, byteOf c.demand⟩ s with
    | mk d u =>
      rw [hcp] at hp
      rw [← (hp : u.standing = s.standing)]
      dsimp only
      split
      · split
        · exact ⟨_, _, standing_completeCycle _ _ _⟩
        · obtain ⟨t, q, h⟩ := ih { c with level := c.level + 1 } d.residual
            { u with seq := { u.seq with cycle := some c, passTimer := none,
                                         reflected := some ⟨d.residual, d.granted, d.shortfall⟩ } }
          exact ⟨t, q, h⟩
      · exact ⟨_, _, standing_offerEnd _ _ _ _⟩

theorem sendLevels_good {fuel : Nat} {c : Cycle} {r : Word} {s : State} (h : s.standing.Good)
    (hl : s.lead.state = .leading) : (sendLevels fuel c r s).standing.Good := by
  obtain ⟨t, q, e⟩ := standing_sendLevels fuel c r s
  rw [e]; exact h.leading hl _ _ _ _ _

theorem startCycle_good {s : State} (h : s.standing.Good) (hl : s.lead.state = .leading) :
    (startCycle s).standing.Good := sendLevels_good (s := { s with seq := _ }) h hl

/-- What runs in a cycle runs in LEADING (R157, R161). -/
theorem leading_of_cycle {s : State} (h : s.standing.Good) {c : Cycle} (hc : s.seq.cycle = some c) :
    s.lead.state = .leading := by
  by_contra hl
  obtain ⟨-, -, -, -, hq⟩ := h.quiet hl
  exact absurd (hc.symm.trans hq) (by simp)

theorem takeReflectedPass_good {d : PassData} {s : State} (h : s.standing.Good) :
    (takeReflectedPass d s).standing.Good := by
  unfold takeReflectedPass; split
  · next c hc =>
    have hl := leading_of_cycle h hc
    refine good_ite (fun _ => good_ite (fun _ => ?_) fun _ => ?_) fun _ => h
    · rw [standing_completeCycle]; exact h.leading hl _ _ _ _ _
    · exact sendLevels_good (s := { s with seq := _ }) (h.leading hl _ _ _ _ _) hl
  · exact h

theorem heatingPeriodExpired_good {s : State} (h : s.standing.Good) (hl : s.lead.state = .leading) :
    (heatingPeriodExpired s).standing.Good := by
  have hp : (startHeatingPeriod s).standing.Good := h.leading hl _ _ _ _ _
  exact good_ite (fun _ => startCycle_good hp hl) fun _ => hp

theorem passTimedOut_good {s : State} (h : s.standing.Good) : (passTimedOut s).standing.Good := by
  unfold passTimedOut; split
  · next c hc => exact h.leading (leading_of_cycle h hc) _ _ _ _ _
  · refine ⟨h.place, h.noPlace, fun hl => ?_, h.standby, h.rollCall⟩
    obtain ⟨h1, h2, h3, -, h5⟩ := h.quiet hl
    exact ⟨h1, h2, h3, rfl, h5⟩

theorem standing_stopLeading (s : State) : (stopLeading s).standing = s.standing.stopped := by
  unfold stopLeading abandonCycle
  cases hc : s.seq.cycle with
  | some c => rfl
  | none => simp only [hc]; rw [Standing.stopped, ← hc]; rfl

/-! ### The roll call of the lead -/

/-- The node a roll call has placed enters LEADING (R56). -/
theorem enterLeading_good {s : State} (h : s.standing.Calls) : (enterLeading s).standing.Good := by
  refine startCycle_good ?_ rfl
  exact ⟨fun _ => h.place, fun hn => absurd (.inr (.inl rfl)) hn, fun hn => absurd rfl hn,
    fun hf => absurd (h.role.symm.trans hf) (by decide), fun hc => by simp [Standing.RollCall, State.standing,
      startHeatingPeriod, startSurveyPeriod, setLead] at hc⟩

/-- A roll call ends in FAILED with the node still PLACING (R57, R65). -/
theorem failLead_good {r : Reason} {s : State} (h : s.standing.Calls) : (failLead r s).standing.Good := by
  have hf : { s.standing with leadState := .failed }.Good := (h.lead .failed).good
  exact good_ite (fun _ => hf.timer (by simp [Standing.RollCall]) _) fun _ => hf

@[simp] theorem standing_offerList (l : List Frame) (s : State) : (offerList l s).standing = s.standing := by
  induction l generalizing s with
  | nil => rfl
  | cons f rest ih =>
    refine standing_ite (ih s) (standing_ite ?_ rfl)
    rw [ih, standing_offerEnd]

/-- The send list drains: the standing stays, or ROSTERING becomes CONFIRMING (R53). -/
theorem standing_drainList (s : State) : (drainList s).1.standing = s.standing ∨
    s.lead.state = .rostering ∧ (drainList s).1.standing = { s.standing with leadState := .confirming } := by
  have hs := standing_offerList s.lead.sendList s
  unfold drainList; dsimp only
  split
  · next hc =>
    refine .inr ⟨(congrArg Standing.leadState hs).symm.trans hc.1, ?_⟩
    have hset (r : Reason) : (setLead .confirming r (offerList s.lead.sendList s)).standing =
        { s.standing with leadState := .confirming } := by rw [← hs]; rfl
    split
    · exact (standing_offerList _ _).trans (hset _)
    · exact hset _
  · exact .inl hs

theorem startRound_calls {s : State} (h : s.standing.Calls) : (startRound s).standing.Calls :=
  ⟨h.place, h.state, h.position, h.placing, h.role, h.quiet⟩

/-- Confirm rounds end in a roll call that goes on, in LEADING, or in FAILED (R53 to R56). -/
theorem beginRounds_good {fuel : Nat} {s : State} (h : s.standing.Calls) : (beginRounds fuel s).standing.Good := by
  induction fuel generalizing s with
  | zero => exact failLead_good h
  | succ n ih =>
    have hc : (drainList (startRound s)).1.standing.Calls := by
      rcases standing_drainList (startRound s) with e | ⟨-, e⟩ <;> rw [e]
      · exact startRound_calls h
      · exact (startRound_calls h).lead _
    unfold beginRounds
    cases hdl : drainList (startRound s) with
    | mk t o =>
      rw [hdl] at hc
      cases o with
      | none => exact hc.good
      | some d =>
        exact good_ite (fun _ => enterLeading_good hc) fun _ => good_ite (fun _ => ih hc) fun _ => failLead_good hc

theorem roundFailed_good {s : State} (h : s.standing.Calls) : (roundFailed s).standing.Good :=
  good_ite (fun _ => beginRounds_good h) fun _ => failLead_good h

theorem takeReflectedConfirm_good {hop : Nat} {d : ConfirmData} {s : State} (h : s.standing.Good) :
    (takeReflectedConfirm hop d s).standing.Good :=
  good_ite (fun hc => good_ite (fun _ => enterLeading_good (h.calls (.inr (.inr hc))))
    fun _ => roundFailed_good (h.calls (.inr (.inr hc)))) fun _ => h

theorem sendListGoesOn_good {s : State} (h : s.standing.Good) : (sendListGoesOn s).standing.Good := by
  refine good_ite (fun _ => h) fun _ => ?_
  have hd : (drainList s).1.standing.Good := by
    rcases standing_drainList s with e | ⟨hr, e⟩ <;> rw [e]
    · exact h
    · exact ((h.calls (.inr (.inl hr))).lead _).good
  cases hdl : drainList s with
  | mk t o =>
    rw [hdl] at hd
    cases o with
    | none => exact hd
    | some d => exact takeReflectedConfirm_good hd

/-- The lead takes position 1 (R48). -/
theorem enterCalling_good {e : End} {s : State} (hq : s.standing.Quiet) (hrole : s.lead.role = true) :
    (enterCalling e s).standing.Good := by
  have h32 : 1 ≤ 32 := by decide
  have hc : (setLead .calling s.lead.reason (enterPlacing 1 e none s)).standing.Calls :=
    ⟨⟨le_refl 1, h32, rfl, tableOf_ownRecord e s le_rfl h32⟩, rfl, rfl, rfl, hrole, hq⟩
  refine good_ite (fun _ => ?_) fun _ => enterLeading_good ⟨hc.place, rfl, rfl, rfl, hrole, hq⟩
  rw [sendCall, standing_offerEnd]
  exact hc.good

theorem startRollCall_good {s : State} (h : s.standing.Good) (hrole : s.lead.role = true) :
    (startRollCall s).standing.Good := by
  unfold startRollCall
  extract_lets s1 l1 s2 s3
  have h3 : s3.standing = s.standing.stopped := standing_stopLeading s
  have hrole3 : s3.standing.role = true := by rw [h3]; exact hrole
  have hq : s3.standing.Quiet := by rw [h3]; exact ⟨rfl, rfl, rfl, rfl, rfl⟩
  split
  · exact returnToUnplaced_good ((h3 ▸ h.stopped).rest hq .failed (.inr ⟨hrole3, rfl⟩))
      (by simp [Standing.RollCall, State.standing, setLead])
  all_goals exact enterCalling_good hq hrole3

theorem failAttempt_good {r : Reason} {s : State} (h : s.standing.Calls) :
    (failAttempt r s).standing.Good := by
  refine good_ite (fun _ => ?_) fun _ => failLead_good h
  have hc : (attemptCounted s).standing.Good := by
    obtain ⟨h1, h32, he, ht⟩ := h.place
    exact Standing.Calls.good ⟨⟨h1, h32, he, ht.keep (le_of_eq h.position)⟩, h.state, h.position, h.placing, h.role,
      h.quiet⟩
  refine good_ite (fun _ => ?_) fun _ => hc
  rw [sendCall, standing_offerEnd]; exact hc

/-- An ANSWER is stored beyond the lead's own position (R49). -/
theorem takeAnswer_good {l : List Byte} {s : State} (h : s.standing.Good) : (takeAnswer l s).standing.Good := by
  refine good_ite (fun hc => ?_) fun _ => h
  obtain ⟨hl, h2, h32, hid⟩ := hc
  have hcalls := h.calls (.inl hl)
  have hpos : s.consist.position = 1 := hcalls.position
  obtain ⟨-, -, -, ht⟩ := hcalls.place
  refine h.table (.inl hcalls.state) (ht.storeRecord (by omega) h32 ?_ hid) _ _
  show _ ≠ s.consist.position
  omega

theorem takeTail_good {d : TailData} {s : State} (h : s.standing.Good) : (takeTail d s).standing.Good := by
  refine good_ite (fun hl => ?_) fun _ => h
  have hc := h.calls (.inl hl)
  refine good_ite (fun _ => ?_) fun _ => good_ite (fun _ => failLead_good hc) fun _ =>
    good_ite (fun h2 => beginRounds_good ?_) fun _ => failAttempt_good hc
  · exact returnToUnplaced_good (hc.lead .failed).good
      (by simp [Standing.RollCall, State.standing, setLead])
  · obtain ⟨h1, h32, he, ht⟩ := hc.place
    have hpos : s.consist.position = 1 := hc.position
    refine ⟨⟨h1, h32, he, ht.keep ?_⟩, hc.state, hc.position, hc.placing, hc.role, hc.quiet⟩
    show s.consist.position ≤ _
    omega

theorem windowExpired_good {s : State} (h : s.standing.Good) : (windowExpired s).standing.Good := by
  unfold windowExpired; dsimp only; split
  · next hl => exact failAttempt_good (h.calls (.inl hl))
  · next hl => exact roundFailed_good (h.calls (.inr (.inl hl)))
  · next hl => exact roundFailed_good (h.calls (.inr (.inr hl)))
  all_goals exact h

/-! ### The lead role, STOP and conflict -/

theorem leadRollCall_good {s : State} (h : s.standing.Good) : (leadRollCall s).standing.Good := by
  unfold leadRollCall; split
  · next hr => exact startRollCall_good h hr
  · refine startRollCall_good ?_ rfl
    exact ⟨h.place, h.noPlace, h.quiet, fun hf => absurd hf (by simp [State.standing, takeRole, loadSetup]), h.rollCall⟩

theorem keyActive_good {s : State} (h : s.standing.Good) : (keyActive s).standing.Good :=
  good_ite (fun _ => leadRollCall_good h) fun _ => h

/-- The role lost: STANDBY, with nothing left running (R46). -/
theorem keyInactive_good {s : State} (h : s.standing.Good) : (keyInactive s).standing.Good := by
  unfold keyInactive
  refine good_ite (fun _ => ?_) fun _ => h
  extract_lets s1 l1 s2 s3
  have h3 : s3.standing = { s.standing.stopped with role := false, leadState := .standby } := by
    rw [← standing_stopLeading]; rfl
  have hg : s3.standing.Good := by
    rw [h3]
    exact ⟨h.place, h.noPlace, fun _ => ⟨rfl, rfl, rfl, rfl, rfl⟩, fun _ => rfl,
      fun hc => by simp [Standing.RollCall] at hc⟩
  have hr : ¬ s3.standing.RollCall := by rw [h3]; simp [Standing.RollCall]
  split
  · exact hg.timer hr _
  · exact hg
  · exact hg
  · exact returnToUnplaced_good hg hr
  · exact hg

theorem stopLead_good {s : State} (h : s.standing.Good) : (stopLead s).standing.Good := by
  unfold stopLead; split
  · next hl => exact failLead_good (h.calls (.inl hl))
  · next hl => exact failLead_good (h.calls (.inr (.inl hl)))
  · next hl => exact failLead_good (h.calls (.inr (.inr hl)))
  · have hg : (stopLeading s).standing.Good ∧ (stopLeading s).standing.Quiet := by
      rw [standing_stopLeading]; exact ⟨h.stopped, rfl, rfl, rfl, rfl, rfl⟩
    exact hg.1.rest hg.2 .standby (.inl rfl)
  all_goals exact h

theorem takeConflict_good {e : End} {hop : Nat} {s : State} (h : s.standing.Good) (hrole : s.lead.role = true) :
    (takeConflict e hop s).standing.Good := by
  unfold takeConflict sendTail
  extract_lets s1 l1 s2 new s3
  rw [standing_offer]
  have h2 : s2.standing = { s.standing.stopped with leadState := .failed } := by rw [← standing_stopLeading]; rfl
  have hg : s2.standing.Good := by rw [h2]; exact h.stopped.rest ⟨rfl, rfl, rfl, rfl, rfl⟩ _ (.inr ⟨hrole, rfl⟩)
  rw [show s3.standing = s2.standing.without .conflict from standing_raiseIf _ _ _]
  exact hg.without (by rw [h2]; simp [Standing.RollCall]) (.inr rfl)

theorem takeCall_good {e : End} {f : Frame} {r : LineRate} {s : State} (h : s.standing.Good) :
    (takeCall e f r s).standing.Good :=
  good_ite (takeConflict_good h) fun hr => placeByCall_good h (by simpa using hr)

/-! ### The survey at the lead -/

theorem autoRecall_good {s : State} (h : s.standing.Good) (hl : s.lead.state = .leading) :
    (autoRecall s).standing.Good :=
  startRollCall_good (s := { s with scratch := _ }) h (h.role (by show s.lead.state ≠ .standby; rw [hl]; decide))

theorem takeReflectedSurvey_good {d : SurveyData} {s : State} (h : s.standing.Good) :
    (takeReflectedSurvey d s).standing.Good := by
  have he (hl : s.lead.state = .leading) : (surveyEvaluated d s).standing.Good := h.leading hl _ _ _ _ _
  rcases takeReflectedSurvey_cases d s with ⟨-, e⟩ | ⟨hl, -, ⟨-, e⟩ | ⟨-, -, e⟩ | ⟨-, -, e⟩⟩ <;> rw [e]
  · exact h
  · exact he hl
  · exact enterStale_good (he hl)
  · exact autoRecall_good (enterStale_good (he hl)) (by rw [enterStale_eq]; exact hl)

theorem sendSurvey_good {s : State} (h : s.standing.Good) (hl : s.lead.state = .leading) :
    (sendSurvey s).standing.Good := by
  have hn : (surveyNumbered s).standing.Good := h.leading hl _ _ _ _ _
  exact good_ite (fun _ => takeReflectedSurvey_good hn) fun _ => by rw [standing_offerEnd]; exact hn

theorem countMiss_good {s : State} (h : s.standing.Good) (hl : s.lead.state = .leading) :
    (countMiss s).standing.Good := by
  have ho (m : Nat) :
      (oweStatus { s with survey := { s.survey with misses := m, outstanding := none } }).standing.Good :=
    h.leading hl _ _ _ _ _
  exact good_ite (fun _ => enterStale_good (ho _)) fun _ => ho _

theorem surveyPeriodExpired_good {s : State} (h : s.standing.Good) (hl : s.lead.state = .leading) :
    (surveyPeriodExpired s).standing.Good := by
  have hp : (startSurveyPeriod s).standing.Good := h.leading hl _ _ _ _ _
  have hm := countMiss_good hp hl
  have hml : (countMiss (startSurveyPeriod s)).lead.state = .leading := by rw [countMiss_eq]; exact hl
  exact good_ite (fun _ => good_ite (fun _ => autoRecall_good hm hml) fun _ => sendSurvey_good hm hml)
    fun _ => sendSurvey_good hp hl

/-! ### Inputs -/

theorem inputChanged_good {i : Input} {level : Bool} {s : State} (h : s.standing.Good) :
    (inputChanged i level s).standing.Good := by
  cases i with
  | cpl e => exact (standing_compareEnd e (raise (cplChange e) s)) ▸ h
  | key => exact good_ite (fun _ => keyActive_good h) fun _ => keyInactive_good h
  | zsp => exact good_ite (fun _ => h) fun _ => (onlyDoors_zspLost s).standing ▸ h
  | iso c =>
    exact good_ite (fun _ => (onlyDoors_isolateOn c s).standing ▸ h) fun _ => (onlyDoors_isolateOff c s).standing ▸ h
  | leaf c n =>
    exact good_ite (fun _ => (onlyDoors_leafCloses c n s).standing ▸ h)
      fun _ => (onlyDoors_leafOpens c n s).standing ▸ h
  | th => exact h

theorem inputSettled_good {i : Input} {level : Bool} {s : State} (h : s.standing.Good) :
    (inputSettled i level s).standing.Good := by
  cases i with
  | cpl e => exact (standing_compareEnd e s) ▸ h
  | key => exact good_ite (fun _ => keyActive_good h) fun _ => h
  | iso c => exact (onlyDoors_tryEndHold c s).standing ▸ h
  | leaf c n => exact (onlyDoors_leafSettled c n s level).standing ▸ h
  | zsp => exact h
  | th => exact h

theorem stabilityExpired_good {i : Input} {s : State} (h : s.standing.Good) : (stabilityExpired i s).standing.Good := by
  unfold stabilityExpired; dsimp only; split
  · exact inputSettled_good h
  · exact good_ite (fun _ => h) fun _ => inputChanged_good h

/-! ### Resets -/

/-- A reset leaves a node without a place and without a role (R189). -/
theorem resetBegin_good (cause : ResetCause) (s : State) : (resetBegin cause s).standing.Good := by
  unfold resetBegin
  rw [standing_raiseIf, standing_raise]
  exact ⟨fun hp => by simp [Standing.Placed, State.standing, Consist.reset] at hp, fun _ => ⟨rfl, rfl, rfl, rfl, rfl⟩,
    fun _ => ⟨rfl, rfl, rfl, rfl, rfl⟩, fun _ => rfl,
    fun hc => by simp [Standing.RollCall, State.standing, Lead.reset] at hc⟩

theorem resetEnd_good {s : State} (h : s.standing.Good) : (resetEnd s).standing.Good := h

theorem resetNode_good (cause : ResetCause) (s : State) : (resetNode cause s).standing.Good :=
  resetEnd_good (resetBegin_good cause s)

theorem pendingReset_good {s : State} (h : s.standing.Good) : (pendingReset s).standing.Good :=
  good_ite (fun _ => resetNode_good _ s) fun _ => h

/-! ### The management responder -/

@[simp] theorem standing_reply (src : Source) (code : Byte) (st : Status) (l : List Byte) (s : State) :
    (reply src code st l s).standing = s.standing := by
  unfold reply; split
  · exact standing_offer _ _ _ s
  · rfl

@[simp] theorem standing_refuse (src : Source) (code : Byte) (st : Status) (s : State) :
    (refuse src code st s).standing = s.standing := standing_reply _ _ _ _ s

/-- Requests for items, tables, the report map, the events and a store leave the standing alone. -/
theorem standing_answerWriteItems (src : Source) (a n : Byte) (ws : List Word) (s : State) :
    (answerWriteItems src a n ws s).standing = s.standing := by
  refine standing_ite (by simp) (standing_ite (by simp) (standing_ite (by simp) ?_))
  split
  · simp
  · exact standing_ite (by simp) (by simp)

theorem standing_answerWriteTable (src : Source) (t a n : Byte) (l : List Byte) (s : State) :
    (answerWriteTable src t a n l s).standing = s.standing := by
  refine standing_ite (by simp) (standing_ite (by simp) (standing_ite (by simp) (standing_ite ?_ ?_)))
  · unfold writeOrders; split
    · exact standing_reply _ _ _ _ _
    · simp
  · exact standing_ite (standing_reply _ _ _ _ _) (by simp)

theorem answerNodeReset_good {src : Source} {s : State} (h : s.standing.Good) :
    (answerNodeReset src s).standing.Good := by
  unfold answerNodeReset; split
  · exact good_ite (fun _ => by rw [standing_offerQueued]; exact h) fun _ => resetNode_good _ s
  · exact h

theorem answerStartRollCall_good {src : Source} {s : State} (h : s.standing.Good) :
    (answerStartRollCall src s).standing.Good := by
  have hr (st : Status) : (refuse src 9 st s).standing.Good := by rwa [standing_refuse]
  exact good_ite (fun _ => hr _) fun _ => good_ite (fun _ => hr _) fun _ =>
    leadRollCall_good (by rwa [standing_reply])

theorem answerStop_good {src : Source} {s : State} (h : s.standing.Good) : (answerStop src s).standing.Good := by
  have hr (st : Status) : (refuse src 10 st s).standing.Good := by rwa [standing_refuse]
  exact good_ite (fun _ => hr _) fun _ => good_ite (fun _ => hr _) fun _ => good_ite (fun _ => hr _) fun _ =>
    stopLead_good (by rwa [standing_reply])

theorem execute_good {src : Source} {l : List Byte} {s : State} (h : s.standing.Good) :
    (execute src l s).standing.Good := by
  unfold execute; split
  · exact good_of_standing (standing_ite (standing_reply _ _ _ _ s) (standing_refuse _ _ _ s)) h
  · exact good_of_standing (standing_answerWriteItems _ _ _ _ s) h
  · exact good_of_standing (standing_ite (standing_reply _ _ _ _ s) (standing_refuse _ _ _ s)) h
  · exact good_of_standing (standing_answerWriteTable _ _ _ _ _ s) h
  · exact good_of_standing (standing_ite (standing_reply _ _ _ _ s) (standing_refuse _ _ _ s)) h
  · exact good_of_standing (standing_reply src 6 .done (eventBytes s.events) { s with events := 0 }) h
  · exact good_of_standing (standing_ite (standing_refuse _ _ _ s) rfl) h
  · exact answerNodeReset_good h
  · exact answerStartRollCall_good h
  · exact answerStop_good h
  · exact good_of_standing (standing_ite (standing_refuse _ _ _ s) (standing_ite (standing_refuse _ _ _ s)
      (standing_ite (standing_refuse _ _ _ s) (standing_reply src 11 .done [] s)))) h

theorem respond_good {src : Source} {l : List Byte} {s : State} (h : s.standing.Good) :
    (respond src l s).standing.Good := by
  have hr (code : Byte) (st : Status) : (refuse src code st s).standing.Good := by rwa [standing_refuse]
  exact good_ite (fun _ => hr _ _) fun _ => good_ite (fun _ => hr _ _) fun _ => good_ite (fun _ => hr _ _) fun _ =>
    execute_good h

theorem standing_storeDone (s : State) : (storeDone s).standing = s.standing := by
  unfold storeDone payOwed; split
  · exact standing_offer _ _ _ _
  · rfl

/-! ### The relay engine -/

theorem relayUnplaced_good {e : End} {f : Frame} {r : LineRate} {s : State} (h : s.standing.Good) :
    (relayUnplaced e f r s).standing.Good := by
  have hp (t : State) (ht : t.standing.Good) : (passOn e f r t).standing.Good := by rwa [passOn, standing_offer]
  unfold relayUnplaced; split
  case h_1 => exact good_ite (fun _ => takeCall_good h) fun _ => hp s h
  case h_2 => exact hp _ (good_ite (fun _ => by rwa [standing_takeHeatSet]) fun _ => h)
  all_goals exact hp s h

@[simp] theorem standing_forwardOutward (f : Frame) (r : LineRate) (s : State) :
    (forwardOutward f r s).standing = s.standing := standing_ite rfl (standing_offerEnd _ _ _ s)

@[simp] theorem standing_sweep (act : Frame → State → Frame × State) (f : Frame) (r : LineRate) (s : State) :
    (sweep act f r s).standing = (act f s).2.standing :=
  standing_ite (standing_offerEnd _ _ _ _) (standing_offerEnd _ _ _ _)

/-- An outward frame at a node without the lead role (R27). -/
theorem takeOutward_good {f : Frame} {r : LineRate} {s : State} (h : s.standing.Good) (hrole : s.lead.role = false) :
    (takeOutward f r s).standing.Good := by
  have hs : (handSource f.src s).standing.Good := handSource_good h
  have hrole' : (handSource f.src s).lead.role = false := by rw [handSource_eq]; exact hrole
  unfold takeOutward; dsimp only; split
  · rw [standing_forwardOutward]; exact takeRoster_good hs
  · rwa [standing_forwardOutward, standing_takeOrder]
  · rwa [standing_forwardOutward, standing_takeHeatSet]
  · rw [standing_sweep]; exact takeConfirm_good hs hrole'
  · rw [standing_sweep, actSurvey]; split
    · exact takeSurvey_good hs
    · exact hs
  · rw [standing_sweep, actHeatPass]; split
    · exact (standing_computePass _ (handSource f.src s)) ▸ hs
    · exact hs
  · exact good_ite (fun _ => respond_good hs) fun _ => good_ite (fun _ => hs) fun _ => by rwa [standing_offerEnd]
  all_goals exact hs

theorem consumeLeadward_good {f : Frame} {r : LineRate} {s : State} (h : s.standing.Good) :
    (consumeLeadward f r s).standing.Good := by
  unfold consumeLeadward; split
  · exact takeAnswer_good h
  · exact takeTail_good h
  · exact takeReflectedConfirm_good h
  · exact takeReflectedSurvey_good h
  · exact takeReflectedPass_good h
  · rwa [standing_offer]
  all_goals exact h

theorem relayPlaced_good {e : End} {f : Frame} {r : LineRate} {s : State} (h : s.standing.Good) :
    (relayPlaced e f r s).standing.Good := by
  have hl : (takeLeadward f r s).standing.Good :=
    good_ite (fun _ => by rwa [standing_offerEnd]) fun _ => good_ite (fun _ => consumeLeadward_good h) fun _ => h
  exact good_ite (fun _ => h) fun _ => good_ite (fun _ => takeCall_good h) fun _ =>
    good_ite (fun _ => good_ite (fun _ => h) fun _ => hl) fun _ =>
      good_ite (fun hc => takeOutward_good h hc.2) fun _ => h

theorem relayCabLead_good {f : Frame} {r : LineRate} {s : State} (h : s.standing.Good) :
    (relayCabLead f r s).standing.Good := by
  unfold relayCabLead; dsimp only; split
  case h_1 =>
    exact good_ite (fun _ => by rwa [standing_offerEnd, standing_takeOrder]) fun _ => by rwa [standing_takeOrder]
  case h_2 =>
    exact good_ite (fun _ => respond_good h) fun _ => good_ite (fun _ => by rwa [standing_offerEnd]) fun _ => h
  all_goals exact h

theorem relay_good {p : Port} {f : Frame} {r : LineRate} {s : State} (h : s.standing.Good) :
    (relay p f r s).standing.Good := by
  cases p with
  | line e => exact good_ite (fun _ => relayPlaced_good h) fun _ => relayUnplaced_good h
  | cab =>
    exact good_ite (fun _ => relayCabLead_good h) fun _ => good_ite (fun _ => respond_good h) fun _ => h

/-! ### The line -/

theorem popHead_good {p : Port} {s : State} (h : s.standing.Good) : (popHead p s).standing.Good := by
  have hp (u : PortUnit) : (restartIdle p (s.setPort p u)).standing.Good := by
    rwa [standing_restartIdle, standing_setPort]
  unfold popHead; dsimp only; split
  · exact good_ite (fun _ => pendingReset_good (hp _)) fun _ => hp _
  · exact hp _

theorem sent_good {p : Port} {s : State} (h : s.standing.Good) : (sent p s).standing.Good := by
  unfold sent; dsimp only; split
  · exact h
  · exact popHead_good h
  · rwa [standing_restartIdle, standing_setPort]

theorem collide_good {p : Port} {s : State} (h : s.standing.Good) : (collide p s).standing.Good := by
  unfold collide; dsimp only; split
  · exact h
  · rwa [standing_restartIdle, standing_lineError, standing_setPort]
  · exact good_ite (fun _ => by rwa [standing_setPort]) fun _ => popHead_good (by rwa [standing_lineError])

/-- A frame heard may make a PLACED node STALE (R73). -/
theorem heard_good {p : Port} {s : State} (h : s.standing.Good) : (heard p s).standing.Good := by
  cases p with
  | line e =>
    unfold heard passedChecks; dsimp only
    rcases restartSilence_cases e (s.setPort (.line e) { s.port (.line e) with rx := .hunt, buffer := [] }) with
      ⟨-, e'⟩ | ⟨-, e'⟩ <;> rw [e']
    · rwa [standing_setEnd, standing_setPort]
    · exact presenceChanged_good (by rwa [standing_setEnd, standing_setPort])
  | cab => exact good_ite (fun _ => by rwa [standing_setPort]) fun _ => h

theorem receive_good {p : Port} {f : Frame} {s : State} (h : s.standing.Good) : (receive p f s).standing.Good := by
  have hd (next : RxState) : (dropFrame p next s).standing.Good := by rwa [standing_dropFrame]
  exact good_ite (fun _ => h) fun _ => good_ite (fun _ => hd _) fun _ => good_ite (fun _ => hd _) fun _ =>
    good_ite (fun _ => heard_good h) fun _ => relay_good (heard_good h)

theorem silenceExpired_good {e : End} {s : State} (h : s.standing.Good) : (silenceExpired e s).standing.Good :=
  presenceChanged_good (by rwa [standing_loseLock, standing_setEnd])

/-! ### Every command -/

theorem event_good {f : State → State} {s t : State}
    (hf : (begin s).standing.Good → (f (begin s)).standing.Good) (h : s.standing.Good) (he : event f s = .next t) :
    t.standing.Good := by
  cases he
  exact good_ite (fun _ => h) fun _ => by rw [standing_finish]; exact hf h

theorem plainEvent_good {f : State → State} {s t : State} (hf : s.standing.Good → (f s).standing.Good)
    (h : s.standing.Good) (he : plainEvent f s = .next t) : t.standing.Good := by
  cases he
  exact good_ite (fun _ => h) fun _ => hf h

/-- An event whose effect leaves the standing alone. -/
theorem event_good_of_standing {f : State → State} {s t : State} (hf : ∀ s, (f s).standing = s.standing)
    (h : s.standing.Good) (he : event f s = .next t) : t.standing.Good :=
  event_good (fun h => by rwa [hf]) h he

/-- A plain event whose effect leaves the standing alone. -/
theorem plainEvent_good_of_standing {f : State → State} {s t : State} (hf : (f s).standing = s.standing)
    (h : s.standing.Good) (he : plainEvent f s = .next t) : t.standing.Good :=
  plainEvent_good (fun h => by rwa [hf]) h he

/-- An expiry whose effect keeps the invariants where the timer runs. -/
theorem onExpiry_good {t : Timer} {f : State → State} {s : State}
    (hf : ∀ d, t = some d → (s.reach d).standing.Good → (f (s.reach d)).standing.Good) (h : s.standing.Good) :
    (onExpiry t f s).standing.Good := by
  cases t with
  | none => exact h
  | some d => exact hf d rfl h

/-- What LEADING alone runs, running (R78, R157). -/
theorem leading_of_running {s : State} (h : s.standing.Good) {d : Nat}
    (hd : s.survey.period = some d ∨ s.seq.periodTimer = some d) : s.lead.state = .leading := by
  by_contra hl
  obtain ⟨hp, -, ht, -⟩ := h.quiet hl
  rcases hd with hd | hd
  · exact absurd (hd.symm.trans hp) (by simp)
  · exact absurd (hd.symm.trans ht) (by simp)

/-- The PLACING timer does not run in a roll call (R48). -/
theorem not_rollCall_of_placing {s : State} (h : s.standing.Good) {d : Nat} (hd : s.consist.placing = some d) :
    ¬ s.standing.RollCall := by
  intro hr
  obtain ⟨-, -, hp⟩ := h.rollCall hr
  exact absurd (hd.symm.trans hp) (by simp)

/-- Every command keeps the invariants. -/
theorem exec_good {i : Instr} {s t : State} (h : s.standing.Good) (he : exec i s = .next t) : t.standing.Good := by
  cases ha : i.arriving with
  | some a =>
    obtain ⟨p, f⟩ := a
    rcases exec_arriving ha s with ⟨-, e⟩ | e <;> rw [e] at he
    · exact plainEvent_good receive_good h he
    · exact event_good receive_good h he
  | none =>
    cases i
    all_goals simp only [Instr.arriving, reduceCtorEq] at ha
    case syncCharacter p b c => exact plainEvent_good_of_standing (standing_hearSync p b c s) h he
    case syncError | parityError | lengthError | gapError | checkError =>
      exact plainEvent_good_of_standing (standing_ite (standing_dropFrame _ _ s) rfl) h he
    case returnToHunt => exact plainEvent_good_of_standing (standing_ite (standing_setPort s _ _) rfl) h he
    case lineBreak p n => exact plainEvent_good_of_standing (standing_takeBreak p n s) h he
    case lineHoldWatchArmed => exact plainEvent_good_of_standing (f := armWatch) rfl h he
    case lineHoldReset =>
      exact plainEvent_good (fun h => good_ite (fun _ => onExpiry_good (fun _ _ _ => resetNode_good _ _) h) fun _ => h)
        h he
    case lockTimerExpiry =>
      exact plainEvent_good_of_standing (standing_onExpiry _ _ s (standing_loseLock .cab .hunt)) h he
    case silenceTimerExpiry => exact plainEvent_good (onExpiry_good fun _ _ => silenceExpired_good) h he
    case idleTimerExpiry e =>
      exact plainEvent_good_of_standing (standing_onExpiry _ _ s fun s => standing_setEnd s e _) h he
    case transmitStart => exact plainEvent_good_of_standing (standing_ite (standing_setPort s _ _) rfl) h he
    case transmitComplete => exact plainEvent_good sent_good h he
    case collision => exact plainEvent_good collide_good h he
    case rosterSendList => exact event_good sendListGoesOn_good h he
    case storeTimerExpiry => exact plainEvent_good_of_standing (standing_onExpiry _ _ s standing_storeDone) h he
    case requestedReset => exact plainEvent_good pendingReset_good h he
    case callWindowExpiry => exact event_good (onExpiry_good fun _ _ => windowExpired_good) h he
    case placingTimeout =>
      exact event_good (onExpiry_good fun _ hd h' => returnToUnplaced_good h' (not_rollCall_of_placing h hd)) h he
    case leadLossExpiry =>
      exact plainEvent_good (onExpiry_good fun _ _ => leadLossExpired_good) h he
    case holdOffExpiry => exact plainEvent_good_of_standing (standing_onExpiry _ _ s standing_holdOffExpired) h he
    case surveyPeriodExpiry =>
      exact event_good (onExpiry_good fun _ hd h' => surveyPeriodExpired_good h' (leading_of_running h (.inl hd))) h he
    case heatingPeriodExpiry =>
      exact event_good (onExpiry_good fun _ hd h' => heatingPeriodExpired_good h' (leading_of_running h (.inr hd))) h he
    case passTimeout => exact event_good (onExpiry_good fun _ _ => passTimedOut_good) h he
    case warnTimerExpiry c | recycleTimerExpiry c =>
      exact event_good_of_standing
        (fun u => standing_onChannelTimer c _ _ u fun u => (onlyDoors_enterClosing c u).standing) h he
    case closeTimerExpiry c =>
      exact event_good_of_standing
        (fun u => standing_onChannelTimer c _ _ u fun u => (onlyDoors_closeExpired c u).standing) h he
    case chimeTimerExpiry => exact event_good_of_standing (fun u => standing_onExpiry _ _ u standing_chime) h he
    case tonePhase => exact event_good_of_standing standing_tonePhaseExpired h he
    case supplySample v =>
      exact event_good_of_standing (fun u => standing_onExpiry _ _ u (standing_supplySample v.toNat)) h he
    case stageDue => exact event_good_of_standing standing_dueArrives h he
    case minOffExpiry n =>
      exact event_good_of_standing (fun u => standing_onExpiry _ _ u (standing_minOffExpired n)) h he
    case holdoverExpiry => exact event_good_of_standing (fun u => standing_onExpiry _ _ u standing_holdoverExpired) h he
    case rawEdge => cases he; exact good_ite (fun _ => h) fun _ => h
    case stabilityTimerExpiry => exact event_good (onExpiry_good fun _ _ => stabilityExpired_good) h he
    case supplyReset => cases he; exact resetBegin_good .supply s
    case supplyAboveUpperThreshold => cases he; exact good_ite (fun _ => resetEnd_good h) fun _ => h

/-- Settles O60: the timebase moves no part of the standing, and every command keeps the invariants. -/
theorem stepsKeepPlaceAndLead : Obligations.StepsKeepPlaceAndLead := by
  intro s t hplace hlead h
  have hs : s.standing.Good := (good_iff s).2 ⟨hplace, hlead⟩
  rw [← good_iff]
  unfold step at h
  split at h
  · next c rest _ => exact exec_good (s := { s with pending := rest }) hs h
  · cases h
    unfold tick; split <;> exact hs

end Sys2Proof.Machine
end

section
/-! The statement about the timers of the consist unit: lead loss and PLACING (R44, R65, R76, R77). -/

namespace Sys2Proof.Machine

/-- The lead-loss timer's expiry stops it, raises LEAD_LOST and takes a PLACED node to STALE, and nothing else (R77). -/
theorem leadLossExpired_eq (s : State) : leadLossExpired s = { s with
    events := (leadLossExpired s).events
    consist := { s.consist with
      leadLoss := none, state := if s.consist.state = .placed then .stale else s.consist.state } } := by
  unfold leadLossExpired
  rw [enterStale_eq, enterStale_state]
  rfl

theorem leadLossExpired_present (s : State) (ev : Event) : (leadLossExpired s).present ev =
    (s.present ev || (ev == .stale && s.consist.state == .placed) || ev == .leadLost) := by
  rw [leadLossExpired, present_raise_iff, enterStale_present]; rfl

/-- The PLACING timer's expiry in PLACING returns the node to UNPLACED, with nothing left to settle (R65). -/
theorem exec_placingTimeout {s : State} {d : Nat} (hlow : s.supplyLow = false) (hr : s.atRest)
    (hst : s.consist.state = .placing) (hd : s.consist.placing = some d) :
    exec .placingTimeout s = .next (raise .unplaced (losePosition .unplaced (s.reach d))) := by
  have hback : returnToUnplaced (s.reach d) = raise .unplaced (losePosition .unplaced (s.reach d)) := by
    rw [returnToUnplaced, if_neg (by rw [reach_consist, hst]; decide)]
  show event (onExpiry s.consist.placing returnToUnplaced) s = _
  have hbegun : returnToUnplaced ((begin s).reach d) =
      (raise .unplaced (losePosition .unplaced (s.reach d))).withScratch ⟨s.teff, false, none⟩ := by
    rw [← hback, ← returnToUnplaced_withScratch]; rfl
  rw [event_of _ hlow, hd, onExpiry_some, hbegun]
  exact congrArg Host.Outcome.next (finish_unmoved hr rfl (teff_congr_record rfl rfl rfl rfl) rfl rfl rfl)

/-- Settles O29: the two timers in turn. -/
theorem consistTimersExpire : Obligations.ConsistTimersExpire := by
  refine ⟨fun s d hlow hd => ⟨leadLossExpired (s.reach d), ?_, ?_, fun hp => ?_, ?_, ?_⟩,
    fun s d hlow hr hst hd => ⟨_, exec_placingTimeout hlow hr hst hd, rfl, rfl, rfl, rfl, rfl, rfl, rfl,
      present_raise _ _, rfl, rfl, rfl⟩⟩
  · show plainEvent (onExpiry s.consist.leadLoss leadLossExpired) s = _
    rw [plainEvent_of _ hlow, hd, onExpiry_some]
  · simp [leadLossExpired_present]
  · simp [leadLossExpired_present, hp]
  · rw [leadLossExpired_eq]; rfl
  · rw [leadLossExpired_eq]; rfl

end Sys2Proof.Machine
end

section
/-! What stops as a lead leaves LEADING, the end of an event that has touched no unit but the cycle record, and the
statement about a CALL at a lead (R59, R67, R78, R161). -/

namespace Sys2Proof.Machine

/-! ### What a state at rest, a frame heard and the kept units give -/

theorem Heard.atRest {p : Port} {f : Frame} {s : State} (h : Heard p f s) : s.atRest := h.2.1

namespace KeepsUnits

variable {s t : State}

theorem doors (h : KeepsUnits s t) : t.doors = s.doors := h.1
theorem heat (h : KeepsUnits s t) : t.heat = s.heat := h.2.1
theorem items (h : KeepsUnits s t) : t.items = s.items := h.2.2.2.1
theorem itemN (h : KeepsUnits s t) (n : Nat) : t.itemN n = s.itemN n := by
  unfold State.itemN State.item; rw [h.items]

end KeepsUnits

/-! ### What stops as LEADING is left (R78, R161) -/

/-- The sequencer with its timers stopped and a cycle in flight abandoned (R161). -/
def Sequencer.stopped (q : Sequencer) : Sequencer :=
  match q.cycle with
  | some c => { q with
      cycle := none, passTimer := none, periodTimer := none, reflected := none
      last := ⟨q.number, .abandoned, c.level, q.reflected.getD ⟨0, 0, 0⟩⟩ }
  | none => { q with passTimer := none, periodTimer := none }

/-- The survey state without a period or an outstanding survey (R78). -/
def SurveyUnit.stopped (u : SurveyUnit) : SurveyUnit := { u with period := none, outstanding := none }

section stopped

variable (q : Sequencer)

@[simp] theorem stopped_cycle : q.stopped.cycle = none := by
  unfold Sequencer.stopped; split
  · rfl
  · assumption
@[simp] theorem stopped_passTimer : q.stopped.passTimer = none := by unfold Sequencer.stopped; split <;> rfl
@[simp] theorem stopped_periodTimer : q.stopped.periodTimer = none := by unfold Sequencer.stopped; split <;> rfl

/-- A cycle in flight is recorded as abandoned, with the last fields that have come back (R161, R162). -/
theorem stopped_last {c : Cycle} (h : q.cycle = some c) :
    q.stopped.last = ⟨q.number, .abandoned, c.level, q.reflected.getD ⟨0, 0, 0⟩⟩ := by
  rw [Sequencer.stopped, h]

end stopped

theorem stopLeading_eq (s : State) : stopLeading s = { s with survey := s.survey.stopped, seq := s.seq.stopped } := by
  unfold stopLeading abandonCycle Sequencer.stopped
  cases h : s.seq.cycle <;> simp only [h] <;> rfl

/-! ### The end of an event that owes a LEAD STATUS (R59, R124, R146) -/

/-- Where the doors, the effective target, the energized level and the raise schedule are as they were, the end of an
event sends the LEAD STATUS owed, and no more. -/
theorem finish_kept {s t : State} (hr : s.atRest) (hd : t.doors = s.doors) (ht : t.teff = s.teff)
    (hl : t.heat.level = s.heat.level) (hra : t.heat.raise = s.heat.raise) (hs : t.scratch.teff = s.teff) :
    finish t = (flushStatus t).withScratch Scratch.rest := by
  obtain ⟨-, h1, h2, h3⟩ := hr
  unfold finish
  rw [settleTone_of (by rw [toneDemand_congr hd, hd, h1]), settleHeat_of (by rw [hl, ht]; exact h2)
    (by rw [hra, hl, ht]; exact h3) (by rw [hs, ht])]
  rfl

/-- What such an event leaves of the state before its end: all but the cab port, the event set and the scratch fields.
-/
theorem flushed_eq {t : State} (c : Scratch) (hm : t.scratch.missed = none) : (flushStatus t).withScratch c = { t with
    puC := (flushStatus t).puC, events := (flushStatus t).events, scratch := c } := by
  rw [flushStatus_eq hm]; rfl

/-- The end ports' queues, among the rest. -/
theorem flushed_line {t : State} (c : Scratch) (hm : t.scratch.missed = none) (e : End) :
    ((flushStatus t).withScratch c).port (.line e) = t.port (.line e) := by
  rw [port_withScratch, flushStatus_lines hm]

/-! ### A CALL at a lead (R67) -/

/-- A lead in CONFLICT: FAILED, with no position, and nothing left running (R67, R161). -/
def conflicted (s : State) : State :=
  raiseIf (s.consist.state != .conflict) .conflict (losePosition .conflict (setLead .failed .conflict
    { stopLeading s with lead := { s.lead with window := none, sendList := [] } }))

theorem conflicted_eq (s : State) : conflicted s = { s with
    lead := { s.lead with state := .failed, reason := .conflict, window := none, sendList := [] }
    consist := { s.consist with
      state := .conflict, position := 0, leadEnd := none, table := emptyTable, length := 0, check := 0
      placing := none, leadLoss := none }
    survey := s.survey.stopped
    seq := s.seq.stopped
    heat := { s.heat with cycleRec := none, grant := 0 }
    events := (conflicted s).events
    scratch := { s.scratch with
      statusDue := s.scratch.statusDue || .failed != s.lead.state || .conflict != s.lead.reason } } := by
  unfold conflicted
  rw [stopLeading_eq]
  cases s.consist.state != .conflict <;> rfl

/-- CONFLICT is raised in entering that state (log 29). -/
theorem conflicted_present {s : State} (h : s.consist.state ≠ .conflict) :
    (conflicted s).present .conflict = true := by
  have hb : (s.consist.state != .conflict) = true := by simp [h]
  rw [conflicted, hb]
  exact present_raise _ _

@[simp] theorem port_conflicted (s : State) (p : Port) : (conflicted s).port p = s.port p := by
  rw [conflicted_eq]; rcases p with (_ | _) | _ <;> rfl

/-- The TAIL with the conflict flag and the lead's identity (R67). -/
def conflictTail (hop : Nat) (id : Identity) : Frame :=
  mkFrame .tail true false 0 1 0 (TailData.payload ⟨byteOf (min (hop + 1) 32), false, true, id⟩)

theorem takeConflict_room {e : End} {s : State} (hop : Nat) (hroom : s.roomFor (.line e) 1) :
    takeConflict e hop s = (conflicted s).enqueue (.line e) (queued (conflictTail hop s.identity)) := by
  have h : takeConflict e hop s =
      sendTail e ⟨byteOf (min (hop + 1) maxPosition), false, true, (conflicted s).identity⟩ (conflicted s) := by
    unfold takeConflict conflicted; rw [stopLeading_eq]; rfl
  have hroom' : (conflicted s).roomFor (.line e) 1 := by unfold State.roomFor; rwa [port_conflicted]
  rw [h, sendTail, offer_room _ _ hroom', conflicted_eq]
  rfl

/-- A CALL that its port accepts reaches the roll call of a lead wherever it stands (R25, R26, R67). -/
theorem relay_conflict {e : End} {f : Frame} {r : LineRate} {s : State} (hk : f.kind = .call)
    (ha : acceptedOnEnd f = true) (hrole : s.lead.role = true) : relay (.line e) f r s = takeConflict e f.hop s := by
  simp [relay, relayPlaced, relayUnplaced, hk, ha, takeCall, hrole]

/-- Settles O21: the lead in CONFLICT, its TAIL on the arrival end, and a LEAD STATUS where one is owed. -/
theorem callAtLeadIsConflict : Obligations.CallAtLeadIsConflict := by
  intro e f s h ha hrole hroom
  set u := heard (.line e) s with hu
  set w := u.withScratch ⟨s.teff, false, none⟩ with hw
  set x := (conflicted w).enqueue (.line e) (queued (conflictTail (frameOf f .call []).hop s.identity)) with hx
  have hwlead : w.lead = s.lead := heard_lead _ s
  have hwid : w.identity = s.identity := heard_identity _ s
  have hrelay : relay (.line e) (frameOf f .call []) (s.rateAt (.line e)) w = x := by
    rw [relay_conflict rfl ha (by rw [hwlead, hrole]), takeConflict_room _ (by simpa [hw, hu] using hroom), hwid]
  have hxe : x = { conflicted w with pu1 := x.pu1, pu2 := x.pu2 } := by rw [hx]; cases e <;> rfl
  have hxu := conflicted_eq w ▸ hxe
  have hm : x.scratch.missed = none := congrArg (·.scratch.missed) hxu
  have hdoors : x.doors = s.doors := (congrArg (·.doors) hxu).trans (heard_doors _ s)
  have hheat : x.heat = { s.heat with cycleRec := none, grant := 0 } := by
    rw [← heard_heat (.line e) s]; exact congrArg (·.heat) hxu
  have hinputs : x.inputs = s.inputs := (congrArg (·.inputs) hxu).trans (heard_inputs _ s)
  have hitems : x.items = s.items := (congrArg (·.items) hxu).trans (heard_items _ s)
  have hend : finish x = (flushStatus x).withScratch Scratch.rest :=
    finish_kept h.atRest hdoors (teff_congr_record hdoors (by rw [hheat]) hinputs hitems) (by rw [hheat]) (by rw [hheat])
      (congrArg (·.scratch.teff) hxu)
  have ht := flushed_eq Scratch.rest hm
  have hexec : exec (.call (.line e) f) s = .next ((flushStatus x).withScratch Scratch.rest) := by
    rw [exec_heard rfl h (by simp [frameOf]), ← hu, ← hw, hrelay, hend]
  have hline (e' : End) : ((flushStatus x).withScratch Scratch.rest).port (.line e') = x.port (.line e') :=
    flushed_line _ hm e'
  have hpresent (hc : s.consist.state ≠ .conflict) :
      ((flushStatus x).withScratch Scratch.rest).present .conflict = true := by
    refine flushStatus_present hm ?_
    rw [hx, State.present, enqueue_events]
    refine conflicted_present ?_
    show u.consist.state ≠ .conflict
    rw [hu, heard_state]; split
    · decide
    · exact hc
  generalize (flushStatus x).withScratch Scratch.rest = t at hexec ht hline hpresent
  have hlead := (congrArg (·.lead) ht).trans (congrArg (·.lead) hxu)
  have hconsist := (congrArg (·.consist) ht).trans (congrArg (·.consist) hxu)
  have hsurvey := (congrArg (·.survey) ht).trans (congrArg (·.survey) hxu)
  have hseq := (congrArg (·.seq) ht).trans (congrArg (·.seq) hxu)
  refine ⟨t, conflictTail (frameOf f .call []).hop s.identity, hexec, ?_⟩
  simp only [hlead, hconsist, hsurvey, hseq, hwlead, SurveyUnit.stopped, stopped_cycle, stopped_passTimer,
    stopped_periodTimer, true_and]
  refine ⟨hrole, hpresent, ?_, rfl, rfl, rfl, mkFrame_leadward .., mkFrame_checkGood .., rfl, ?_,
    (congrArg (·.doors) ht).trans hdoors, (congrArg (·.inputs) ht).trans hinputs, (congrArg (·.heat) ht).trans hheat,
    (congrArg (·.items) ht).trans hitems⟩
  · rw [Queues, hline, hx, State.enqueue, port_setPort, port_conflicted, hw, port_withScratch]
  · rw [hline, hx, port_enqueue_ne _ _ _ (by simp), port_conflicted, hw, port_withScratch, hu,
      heard_port_ne _ _ (by simp)]

end Sys2Proof.Machine
end

section
/-! A roll call that fails with the node left in PLACING, and the statement about TAILs with a flag set (R50, R57,
R65). -/

namespace Sys2Proof.Machine

/-! ### FAILED with the node still PLACING (R57, R65) -/

/-- A lead that fails from a state other than FAILED, its window stopped at the moment `clock`. -/
theorem failLead_failsPlacing {r : Reason} {s : State} (clock : Nat) (hr : s.atRest) (hst : s.lead.state ≠ .failed)
    (hpl : s.consist.state = .placing) (hroom : s.roomFor .cab 1) :
    FailsPlacing r clock s (finish (failLead r ((windowStopped clock s).withScratch ⟨s.teff, false, none⟩))) := by
  set w := (windowStopped clock s).withScratch ⟨s.teff, false, none⟩
  set v := startPlacing (setLead .failed r { w with lead := { w.lead with window := none, sendList := [] } }) with hv
  have hfail : failLead r w = v := if_pos hpl
  have hdue : v.scratch.statusDue = true := by
    show (false || LeadState.failed != s.lead.state || _) = true
    simp [hst.symm]
  have hfinish : finish v = (v.enqueue .cab (queued (leadStatusFrame v))).withScratch Scratch.rest := by
    rw [finish_settled (s := s) (t := v) hr ⟨rfl, rfl, rfl, rfl, rfl⟩ rfl, flushStatus_room hdue rfl hroom]
  rw [hfail, hfinish]
  exact ⟨rfl, rfl, rfl, statusSent_enqueue _ rfl, fun e => by cases e <;> rfl, by rw [← hr.1]; rfl⟩

/-! ### A leadward frame at a lead at position 1 (R34) -/

/-- A frame heard leaves a node that is not PLACED in its state (R73). -/
theorem heard_state_of_placing {e : End} {s : State} (h : s.consist.state = .placing) :
    (heard (.line e) s).consist.state = .placing := by
  rw [heard_state, h]; simp

/-- A leadward frame that the lead takes for itself, in the event of its arrival. -/
theorem exec_consumed {i : Instr} {e : End} {f : Frame} {s : State} (ha : i.arriving = some (.line e, f))
    (h : Heard (.line e) f s) (hpl : s.consist.state = .placing) (h1 : s.consist.position = 1)
    (hrole : s.lead.role = true) (he : s.consist.leadEnd = some e.other) (hacc : acceptedOnEnd f = true)
    (hl : f.leadward = true) : exec i s = .next (finish (consumeLeadward f (s.rateAt (.line e))
      ((heard (.line e) s).withScratch ⟨s.teff, false, none⟩))) := by
  rw [exec_heard ha h (kind_ne_idle_of_accepted hacc)]
  exact congrArg (fun x => Host.Outcome.next (finish x))
    (relay_consumed (s := (heard (.line e) s).withScratch ⟨s.teff, false, none⟩)
      ((heard_holdsPosition _ s).trans (holdsPosition_of_placing hpl)) ((heard_position _ s).trans h1)
      ((congrArg Lead.role (heard_lead _ s)).trans hrole) ((heard_leadEnd _ s).trans he) hacc
      (kind_ne_call_of_leadward hacc hl) hl)

theorem tail_leadward {f : LineFrame} (h : acceptedOnEnd (frameOf f .tail []) = true) :
    (frameOf f .tail []).leadward = true := by
  simp only [acceptedOnEnd, frameOf, Bool.and_eq_true] at h
  exact h.1.1

/-! ### TAILs with a flag set (R50, R57) -/

/-- A lead whose roll call a conflict TAIL has ended (R50, R57). -/
def calledIntoConflict (id : Identity) (s : State) : State :=
  raise .unplaced (losePosition .unplaced (setLead .failed .conflict
    { s with lead := { s.lead with window := none, conflictId := id } }))

@[simp] theorem port_calledIntoConflict (id : Identity) (s : State) (p : Port) :
    (calledIntoConflict id s).port p = s.port p := by rcases p with (_ | _) | _ <;> rfl

theorem calledIntoConflict_eq (id : Identity) (s : State) : calledIntoConflict id s = { s with
    lead := { s.lead with state := .failed, reason := .conflict, window := none, conflictId := id }
    consist := { s.consist with
      state := .unplaced, position := 0, leadEnd := none, table := emptyTable, length := 0, check := 0
      placing := none, leadLoss := none }
    heat := { s.heat with cycleRec := none, grant := 0 }
    events := (calledIntoConflict id s).events
    scratch := { s.scratch with
      statusDue := s.scratch.statusDue || .failed != s.lead.state || .conflict != s.lead.reason } } := rfl

theorem takeTail_conflict {d : TailData} {s : State} (hst : s.lead.state = .calling) (hpl : s.consist.state = .placing)
    (hc : d.conflict = true) : takeTail d s = calledIntoConflict d.identity s := by
  rw [takeTail, if_pos hst]
  dsimp only
  rw [if_pos hc]
  exact if_neg (by rw [setLead_consist, hpl]; decide)

/-- The end of that event: one LEAD STATUS, that shows the node UNPLACED and the lead FAILED (R59). -/
theorem finish_calledIntoConflict {s u : State} (id : Identity) (hr : s.atRest) (hk : KeepsUnits s u)
    (hst : u.lead.state = .calling) (hroom : u.roomFor .cab 1) :
    let x := calledIntoConflict id (u.withScratch ⟨s.teff, false, none⟩)
    finish x = (x.enqueue .cab (queued (leadStatusFrame x))).withScratch Scratch.rest := by
  intro x
  obtain ⟨hdoors, hheat, hinputs, hitems, -⟩ := hk
  have hxheat : x.heat = { s.heat with cycleRec := none, grant := 0 } := by rw [← hheat]; rfl
  have hdue : x.scratch.statusDue = true := by
    show (false || LeadState.failed != u.lead.state || _) = true
    rw [hst]; rfl
  have hxroom : x.roomFor .cab 1 := by unfold State.roomFor; rwa [port_calledIntoConflict, port_withScratch]
  have hteff : x.teff = s.teff := teff_congr_record (t := x) hdoors (by rw [hxheat]) hinputs hitems
  have hkept : finish x = (flushStatus x).withScratch Scratch.rest :=
    finish_kept hr hdoors hteff (by rw [hxheat]) (by rw [hxheat]) rfl
  rw [hkept, flushStatus_room hdue rfl hxroom]

theorem takeTail_overflow {d : TailData} {s : State} (hst : s.lead.state = .calling) (hc : d.conflict = false)
    (ho : d.overflow = true) : takeTail d s = failLead .tooLong { s with lead := { s.lead with window := none } } := by
  simp [takeTail, hst, hc, ho]

/-- Settles O23: the conflict flag, and the overflow flag alone. -/
theorem conflictTailFailsRollCall : Obligations.ConflictTailFailsRollCall := by
  constructor
  · intro e f s h hpl h1 hrole hst he hacc hc hroom
    have hexec := exec_consumed (i := .tail (.line e) f) rfl h hpl h1 hrole he hacc (tail_leadward hacc)
    have hk := heard_keepsUnits (.line e) s
    have hupl := heard_state_of_placing (e := e) hpl
    have hulead := heard_lead (.line e) s
    have hucab : (heard (.line e) s).port .cab = s.port .cab := heard_port_ne _ s (by simp)
    have huother : (heard (.line e) s).port (.line e.other) = s.port (.line e.other) := heard_port_ne _ s (by simp)
    have huqueue := heard_queue (.line e) s (.line e)
    have hroom' := (heard_roomFor (.line e) .cab s 1).2 hroom
    generalize heard (.line e) s = u at *
    have htail : consumeLeadward (frameOf f .tail []) (s.rateAt (.line e)) (u.withScratch ⟨s.teff, false, none⟩) =
        calledIntoConflict (CoachRecord.identityAt f.body 2) (u.withScratch ⟨s.teff, false, none⟩) :=
      takeTail_conflict (d := TailData.ofPayload f.body) (by rw [withScratch_lead, hulead, hst]) hupl hc
    have hend := finish_calledIntoConflict (CoachRecord.identityAt f.body 2) h.atRest hk (by rw [hulead, hst]) hroom'
    rw [htail, hend] at hexec
    have hx := calledIntoConflict_eq (CoachRecord.identityAt f.body 2) (u.withScratch ⟨s.teff, false, none⟩)
    have hport := port_calledIntoConflict (CoachRecord.identityAt f.body 2) (u.withScratch ⟨s.teff, false, none⟩)
    have hpresent : (calledIntoConflict (CoachRecord.identityAt f.body 2)
      (u.withScratch ⟨s.teff, false, none⟩)).present .unplaced = true := present_raise _ _
    generalize calledIntoConflict (CoachRecord.identityAt f.body 2) (u.withScratch ⟨s.teff, false, none⟩) = x at *
    have hlead := congrArg State.lead hx
    have hconsist := congrArg State.consist hx
    have hheat := congrArg State.heat hx
    have hline (e' : End) : (x.enqueue .cab (queued (leadStatusFrame x))).port (.line e') = u.port (.line e') := by
      rw [port_enqueue_ne _ _ _ (by simp), hport, port_withScratch]
    have hrole' : x.lead.role = true := by rw [hlead]; exact (congrArg Lead.role hulead).trans hrole
    refine ⟨_, leadStatusFrame x, hexec, ?_⟩
    simp only [withScratch_lead, enqueue_lead, withScratch_consist, enqueue_consist, port_withScratch, hline, huother,
      huqueue, hrole']
    rw [hlead, hconsist]
    refine ⟨rfl, rfl, trivial, rfl, rfl, rfl, rfl, rfl, rfl, ?_, ?_, rfl, ?_, rfl, mkFrame_checkGood .., ?_, trivial,
      trivial, ?_, ?_, ?_⟩
    · exact (congrArg (BitVec.getLsbD · _) (enqueue_events x _ _)).trans hpresent
    · exact (queues_enqueue x .cab _).of_port ((hport .cab).trans ((port_withScratch _ _ _).trans hucab))
    · show byteOf x.consist.position = 0
      rw [hconsist]; rfl
    · show [byteOf (leadStateCode x.lead.state), byteOf (reasonCode x.lead.reason),
        byteOf (consistStateCode x.consist.state), byteOf x.consist.length] = _
      rw [hlead, hconsist]; rfl
    · exact (enqueue_doors x _ _).trans ((congrArg State.doors hx).trans hk.doors)
    · exact (enqueue_items x _ _).trans ((congrArg State.items hx).trans hk.items)
    · rw [← hk.heat]; exact (enqueue_heat x _ _).trans hheat
  · intro e f s ⟨h, hacc, hpl, h1, hrole, he⟩ hst hc ho hroom
    set u := heard (.line e) s with hu
    have hk : KeepsUnits s u := heard_keepsUnits _ s
    have hulead : u.lead = s.lead := heard_lead _ s
    have htail : takeTail (TailData.ofPayload f.body) (u.withScratch ⟨s.teff, false, none⟩) =
        failLead .tooLong ((windowStopped s.now u).withScratch ⟨u.teff, false, none⟩) := by
      rw [takeTail_overflow (by rw [withScratch_lead, hulead, hst]) hc ho, hk.teff, ← heard_now (.line e) s]; rfl
    refine ⟨_, exec_consumed rfl h hpl h1 hrole he hacc (tail_leadward hacc), ?_⟩
    show FailsPlacing _ _ _ (finish (takeTail (TailData.ofPayload f.body) (u.withScratch ⟨s.teff, false, none⟩)))
    rw [htail]
    exact failLead_failsPlacing _ (hk.atRest h.atRest) (by rw [hulead, hst]; decide) (heard_state_of_placing hpl)
      ((heard_roomFor _ _ s 1).2 hroom)

end Sys2Proof.Machine
end

section
/-! A discrete input and its filter: an input read after another is set, what the effective target reads of the inputs,
and a stability timer's expiry; and the statement about the KEY lost (R46, R172, R173). -/

namespace Sys2Proof.Machine

/-! ### Inputs read after one is set -/

theorem inputIndex_injective {i j : Input} (h : inputIndex i = inputIndex j) : i = j :=
  Option.some.inj ((allInputs_getElem? i).symm.trans ((congrArg (allInputs[·]?) h).trans (allInputs_getElem? j)))

theorem input_setInput (s : State) (i : Input) (l : InputLine) : (s.setInput i l).input i = l := by
  have hi : inputIndex i < s.inputs.list.length := (List.getElem?_eq_some_iff.1 (inputs_getElem? s i)).1
  simp [State.input, State.setInput, Tab.getD, Tab.set, hi]

theorem input_setInput_ne (s : State) {i j : Input} (l : InputLine) (h : j ≠ i) :
    (s.setInput i l).input j = s.input j := by
  have hn : inputIndex i ≠ inputIndex j := fun he => h (inputIndex_injective he).symm
  simp [State.input, State.setInput, Tab.getD, Tab.set, List.getElem?_set_ne hn]

/-- The effective target reads the filtered level of TH alone (R144, R146). -/
theorem teff_congr_th {s t : State} (hd : t.doors = s.doors) (hh : t.heat = s.heat)
    (hi : (t.input .th).level = (s.input .th).level) (hm : t.items = s.items) : t.teff = s.teff := by
  have hth : t.inactive .th = s.inactive .th := by unfold State.inactive; rw [hi]
  unfold State.teff State.ceiling State.enabledStages State.capTh State.capDoor State.capSup State.doorsSecured
    State.secured State.channel State.itemN State.item
  rw [hd, hh, hth, hm]

/-! ### A stability timer's expiry (R172) -/

/-- The input as its filter leaves it: the raw level is the filtered one, and the timer has stopped. -/
def inputFiltered (i : Input) (s : State) : State := s.setInput i ⟨(s.input i).raw, some (s.input i).raw, none⟩

/-- The state in which the units take a filtered level that timer `d` has brought. -/
def filteredAt (i : Input) (d : Nat) (s : State) : State :=
  ((inputFiltered i s).reach d).withScratch ⟨s.teff, false, none⟩

section filtered

variable (i : Input) (d : Nat) (s : State)

@[simp] theorem port_inputFiltered (p : Port) : (inputFiltered i s).port p = s.port p := by
  rcases p with (_ | _) | _ <;> rfl

@[simp] theorem port_filteredAt (p : Port) : (filteredAt i d s).port p = s.port p := by
  rcases p with (_ | _) | _ <;> rfl

@[simp] theorem alive_filteredAt (e : End) : (filteredAt i d s).alive e = s.alive e := by cases e <;> rfl

@[simp] theorem roomFor_filteredAt (p : Port) (n : Nat) : (filteredAt i d s).roomFor p n ↔ s.roomFor p n := by
  unfold State.roomFor; rw [port_filteredAt]

theorem input_filteredAt : (filteredAt i d s).input i = ⟨(s.input i).raw, some (s.input i).raw, none⟩ :=
  input_setInput s i _

theorem input_filteredAt_ne {j : Input} (h : j ≠ i) : (filteredAt i d s).input j = s.input j :=
  input_setInput_ne s _ h

theorem filteredAt_teff (h : i ≠ .th) : (filteredAt i d s).teff = s.teff :=
  teff_congr_th rfl rfl (by rw [input_filteredAt_ne i d s h.symm]) rfl

end filtered

section expiry

variable {i : Input} {s : State} {d : Nat}

theorem exec_stability (hlow : s.supplyLow = false) (hd : (s.input i).timer = some d) :
    exec (.stabilityTimerExpiry i) s = .next (finish (match (s.input i).level with
      | none => inputSettled i (s.input i).raw (filteredAt i d s)
      | some f => if f = (s.input i).raw then filteredAt i d s
          else inputChanged i (s.input i).raw (filteredAt i d s))) := by
  show event (onExpiry (s.input i).timer (stabilityExpired i)) s = _
  rw [event_of _ hlow, hd]
  rfl

/-- A first settling is handed to the units that read the input (R173). -/
theorem exec_settled (hlow : s.supplyLow = false) (hd : (s.input i).timer = some d) (hl : (s.input i).level = none) :
    exec (.stabilityTimerExpiry i) s = .next (finish (inputSettled i (s.input i).raw (filteredAt i d s))) := by
  rw [exec_stability hlow hd, hl]

/-- So is a change of the filtered level. -/
theorem exec_changed {f : Bool} (hlow : s.supplyLow = false) (hd : (s.input i).timer = some d)
    (hl : (s.input i).level = some f) (hne : f ≠ (s.input i).raw) :
    exec (.stabilityTimerExpiry i) s = .next (finish (inputChanged i (s.input i).raw (filteredAt i d s))) := by
  rw [exec_stability hlow hd, hl]; exact congrArg (fun x => Host.Outcome.next (finish x)) (if_neg hne)

/-- A raw level that is the filtered one already is handed to nobody. -/
theorem exec_unchanged (hlow : s.supplyLow = false) (hd : (s.input i).timer = some d)
    (hl : (s.input i).level = some (s.input i).raw) :
    exec (.stabilityTimerExpiry i) s = .next (finish (filteredAt i d s)) := by
  rw [exec_stability hlow hd, hl]; exact congrArg (fun x => Host.Outcome.next (finish x)) (if_pos rfl)

end expiry

/-! ### The KEY lost (R46) -/

/-- A lead that has lost the role: STANDBY, with nothing left running, and one last LEAD STATUS owed (R46, R59). -/
def roleLost (s : State) : State :=
  { s with
    lead := ⟨false, .standby, s.lead.reason, s.lead.conflictId, 1, 1, none, []⟩
    survey := s.survey.stopped
    seq := s.seq.stopped
    scratch := { s.scratch with statusDue := true } }

theorem keyInactive_lead {s : State} (h : s.lead.role = true) : keyInactive s =
    match s.consist.state with
    | .placing => startPlacing (roleLost s)
    | .placed | .stale => startLeadLoss (roleLost s)
    | .conflict => returnToUnplaced (roleLost s)
    | .unplaced => roleLost s := by
  unfold keyInactive
  rw [if_pos h, stopLeading_eq]
  rfl

/-- Beyond that, the role lost touches the consist unit, the cycle record and the event set. -/
theorem keyInactive_eq {s : State} (h : s.lead.role = true) : keyInactive s = { roleLost s with
    consist := (keyInactive s).consist
    heat := { s.heat with cycleRec := (keyInactive s).heat.cycleRec, grant := (keyInactive s).heat.grant }
    events := (keyInactive s).events } := by
  rw [keyInactive_lead h]
  cases s.consist.state
  case conflict => exact returnToUnplaced_eq (roleLost s)
  all_goals rfl

/-- The end of the event that a change of an input with no part in the effective target has brought, where doors and
heating but for the cycle record are as they were, and a LEAD STATUS is owed. -/
theorem finish_filtered {i : Input} {d : Nat} {s x : State} (hi : i ≠ .th) (hr : s.atRest) (hd : x.doors = s.doors)
    (hh : { x.heat with cycleRec := s.heat.cycleRec, grant := s.heat.grant } = s.heat)
    (hin : x.inputs = (filteredAt i d s).inputs) (hm : x.items = s.items) (hs : x.scratch = ⟨s.teff, true, none⟩)
    (hroom : x.roomFor .cab 1) :
    finish x = (x.enqueue .cab (queued (leadStatusFrame x))).withScratch Scratch.rest := by
  have hteff : x.teff = s.teff :=
    (teff_congr_record (s := filteredAt i d s) hd hh hin hm).trans (filteredAt_teff i d s hi)
  have hlevel : x.heat.level = s.heat.level := (congrArg Heat.level hh :)
  have hraise : x.heat.raise = s.heat.raise := (congrArg Heat.raise hh :)
  rw [finish_kept hr hd hteff hlevel hraise (by rw [hs]), flushStatus_room (by rw [hs]) (by rw [hs]) hroom]

@[simp] theorem withScratch_survey (s : State) (c : Scratch) : (s.withScratch c).survey = s.survey := rfl
@[simp] theorem withScratch_seq (s : State) (c : Scratch) : (s.withScratch c).seq = s.seq := rfl
@[simp] theorem withScratch_doors (s : State) (c : Scratch) : (s.withScratch c).doors = s.doors := rfl

/-- Settles O48: the role lost, and what each consist state makes of it. -/
theorem keyLossEndsTheLead : Obligations.KeyLossEndsTheLead := by
  intro s d hlow hr hd hl hraw hrole hroom
  have hexec := exec_changed (i := .key) hlow hd hl (by rw [hraw]; decide)
  rw [hraw, show inputChanged .key false (filteredAt .key d s) = keyInactive (filteredAt .key d s) from rfl] at hexec
  have hkey := keyInactive_lead (s := filteredAt .key d s) hrole
  have hx := keyInactive_eq (s := filteredAt .key d s) hrole
  generalize keyInactive (filteredAt .key d s) = x at hexec hkey hx
  have hport (p : Port) : x.port p = s.port p :=
    (congrArg (State.port · p) hx).trans (by rcases p with (_ | _) | _ <;> rfl)
  have hheat : { x.heat with cycleRec := s.heat.cycleRec, grant := s.heat.grant } = s.heat := by rw [hx]; rfl
  have hlead := congrArg State.lead hx
  have hsurvey := congrArg State.survey hx
  have hseq := congrArg State.seq hx
  have hdoors : x.doors = s.doors := (congrArg State.doors hx).trans rfl
  have hitems : x.items = s.items := (congrArg State.items hx).trans rfl
  have hscratch : x.scratch = ⟨s.teff, true, none⟩ := (congrArg State.scratch hx).trans rfl
  have hinputs : x.inputs = (filteredAt .key d s).inputs := (congrArg State.inputs hx).trans rfl
  have hxroom : x.roomFor .cab 1 := by unfold State.roomFor; rwa [hport]
  rw [finish_filtered (i := .key) (by decide) hr hdoors hheat hinputs hitems hscratch hxroom] at hexec
  refine ⟨_, leadStatusFrame x, hexec, (enqueue_lead x _ _).trans hlead, ?_⟩
  simp only [withScratch_survey, withScratch_seq, withScratch_consist, withScratch_doors, enqueue_survey, enqueue_seq,
    enqueue_consist, enqueue_doors, port_withScratch, hsurvey, hseq, hdoors, roleLost, SurveyUnit.stopped,
    stopped_cycle, stopped_passTimer, stopped_periodTimer, true_and]
  refine ⟨fun c hc => stopped_last _ hc, ?_, rfl, ?_, mkFrame_checkGood .., ?_, ?_, ?_, ?_⟩
  · exact (queues_enqueue x .cab _).of_port (hport .cab)
  · show byteOf (leadStateCode x.lead.state) = 0
    rw [hlead]; rfl
  · intro hp
    have hp' : s.consist.state = .placed ∨ s.consist.state = .stale := by simpa [State.placedOrStale] using hp
    rcases hp' with hp | hp <;>
    · rw [show (filteredAt .key d s).consist.state = _ from hp] at hkey
      exact congrArg State.consist hkey
  · intro hp
    rw [show (filteredAt .key d s).consist.state = _ from hp] at hkey
    exact congrArg State.consist hkey
  · intro hp
    rw [show (filteredAt .key d s).consist.state = _ from hp] at hkey
    have hback : x = raise .unplaced (losePosition .unplaced (roleLost (filteredAt .key d s))) :=
      hkey.trans (if_neg (by rw [show (roleLost (filteredAt .key d s)).consist.state = _ from hp]; decide))
    exact ⟨congrArg (·.consist.state) hback, (congrArg (State.present · .unplaced) hback).trans (present_raise _ _)⟩
  · exact fun q hq => by rw [port_enqueue_ne _ _ _ hq, hport]

end Sys2Proof.Machine
end

section
/-! A roll call that starts at a node with one neighbour (R45, R47, R48, R59, R156). -/

namespace Sys2Proof.Machine

/-! ### The role taken (R45, R156) -/

/-- The state with the role held: taken, where it is not held yet. -/
def roleHeld (s : State) : State := if s.lead.role then s else takeRole s

/-- Of the rest it touches the lead-loss timer and the sequencer at most. -/
theorem roleHeld_eq (s : State) : ∃ l q, roleHeld s =
    { s with lead := { s.lead with role := true }, consist := { s.consist with leadLoss := l }, seq := q } := by
  unfold roleHeld
  split
  · next h => exact ⟨s.consist.leadLoss, s.seq, by rw [← h]⟩
  · exact ⟨_, _, rfl⟩

theorem roleHeld_setup {s : State} (h : s.lead.role = false) : (roleHeld s).seq.budget = s.itemN Item.defaultBudget ∧
    (roleHeld s).seq.demand = s.itemN Item.defaultDemand ∧ (roleHeld s).seq.period = s.itemN Item.defaultPeriod := by
  unfold roleHeld; rw [if_neg (by rw [h]; decide)]; exact ⟨rfl, rfl, rfl⟩

@[simp] theorem stopped_budget (q : Sequencer) : q.stopped.budget = q.budget := by
  unfold Sequencer.stopped; split <;> rfl
@[simp] theorem stopped_demand (q : Sequencer) : q.stopped.demand = q.demand := by
  unfold Sequencer.stopped; split <;> rfl
@[simp] theorem stopped_period (q : Sequencer) : q.stopped.period = q.period := by
  unfold Sequencer.stopped; split <;> rfl

/-! ### A roll call started with one neighbour (R47, R48) -/

/-- The lead that has entered CALLING with its neighbour at end `e`, its CALL still to be offered. -/
def rollCalling (e : End) (s : State) : State :=
  { s with
    lead := ⟨s.lead.role, .calling, .none, 0, 1, 1, s.start (s.itemN Item.callWindow), []⟩
    consist := { s.consist with
      state := .placing, position := 1, leadEnd := some e.other, table := tableWith 1 (ownRecord 1 e.other s)
      length := 0, check := 0, placing := none, leadLoss := none }
    survey := s.survey.stopped
    seq := s.seq.stopped
    heat := { s.heat with cycleRec := none, grant := 0 }
    scratch := { s.scratch with statusDue := true } }

@[simp] theorem port_rollCalling (e : End) (s : State) (p : Port) : (rollCalling e s).port p = s.port p := by
  rcases p with (_ | _) | _ <;> rfl

/-- The state in which a roll call looks at the neighbours: what the lead ran is stopped, its fields fresh (R47). -/
def rollCallBegun (s : State) : State :=
  { s with
    lead := ⟨s.lead.role, s.lead.state, .none, 0, 1, 1, none, []⟩
    survey := s.survey.stopped
    seq := s.seq.stopped
    scratch := { s.scratch with statusDue := s.scratch.statusDue || false || .none != s.lead.reason } }

@[simp] theorem alive_rollCallBegun (s : State) (e : End) : (rollCallBegun s).alive e = s.alive e := by cases e <;> rfl

theorem startRollCall_eq (s : State) : startRollCall s = match s.alive .e1, s.alive .e2 with
    | true, true => returnToUnplaced (setLead .failed .leadNotAtEnd (rollCallBegun s))
    | false, true => enterCalling .e1 (rollCallBegun s)
    | true, false => enterCalling .e2 (rollCallBegun s)
    | false, false => enterCalling (rollCallBegun s).cabEnd (rollCallBegun s) := by
  have hb : setLead s.lead.state .none { stopLeading s with lead := { s.lead with
      sendList := [], window := none, conflictId := 0, attempt := 1, round := 1 } } = rollCallBegun s := by
    rw [stopLeading_eq]
    simp [setLead, rollCallBegun]
  unfold startRollCall
  rw [stopLeading_eq] at hb ⊢
  exact hb ▸ rfl

theorem startRollCall_oneNeighbour {e : End} {s : State} (ha : s.alive e = true) (hn : s.alive e.other = false)
    (hst : s.lead.state ≠ .calling) (hroom : s.roomFor (.line e) 1) :
    startRollCall s = (rollCalling e s).enqueue (.line e) (queued (leadFrame .call [1])) := by
  have hcall : startRollCall s = enterCalling e.other (rollCallBegun s) := by
    rw [startRollCall_eq]
    cases e <;> simp only [End.other] at hn ⊢ <;> rw [ha, hn]
  have hout : (setLead .calling .none (enterPlacing 1 e.other none (rollCallBegun s))).outwardPresent = true := by
    cases e <;> exact ha
  have hdue : (s.scratch.statusDue || false || Reason.none != s.lead.reason || LeadState.calling != s.lead.state ||
      Reason.none != Reason.none) = true := by simp [hst.symm]
  have hstate :
      startWindow (setLead .calling .none (enterPlacing 1 e.other none (rollCallBegun s))) = rollCalling e s := by
    show { rollCalling e s with scratch := { s.scratch with statusDue :=
      (s.scratch.statusDue || false || Reason.none != s.lead.reason || LeadState.calling != s.lead.state ||
        Reason.none != Reason.none) } } = rollCalling e s
    rw [hdue]; rfl
  have hroom' : (rollCalling e s).roomFor (.line e) 1 := by unfold State.roomFor; rwa [port_rollCalling]
  rw [hcall, enterCalling]
  dsimp only
  rw [show (rollCallBegun s).lead.reason = .none from rfl, if_pos hout, hstate, sendCall,
    outwardEnd_of (e := e.other) rfl]
  cases e <;> exact offerEnd_room _ _ hroom'

/-- A roll call that a node with one neighbour has started, its CALL offered at that end. -/
def rollCallOut (e : End) (s : State) : State :=
  (rollCalling e (roleHeld s)).enqueue (.line e) (queued (leadFrame .call [1]))

theorem leadRollCall_oneNeighbour {e : End} {s : State} (ha : s.alive e = true) (hn : s.alive e.other = false)
    (hst : s.lead.state ≠ .calling) (hroom : s.roomFor (.line e) 1) : leadRollCall s = rollCallOut e s := by
  obtain ⟨l, q, hq⟩ := roleHeld_eq s
  show startRollCall (roleHeld s) = rollCallOut e s
  rw [rollCallOut, hq]
  cases e <;> exact startRollCall_oneNeighbour ha hn hst hroom

/-- What it leaves of the state is all but the units the roll call is about. -/
theorem rollCallOut_eq (e : End) (s : State) : rollCallOut e s = { s with
    pu1 := (rollCallOut e s).pu1
    pu2 := (rollCallOut e s).pu2
    lead := ⟨true, .calling, .none, 0, 1, 1, s.start (s.itemN Item.callWindow), []⟩
    consist := { s.consist with
      state := .placing, position := 1, leadEnd := some e.other, table := tableWith 1 (ownRecord 1 e.other s)
      length := 0, check := 0, placing := none, leadLoss := none }
    survey := s.survey.stopped
    seq := (roleHeld s).seq.stopped
    heat := { s.heat with cycleRec := none, grant := 0 }
    scratch := { s.scratch with statusDue := true } } := by
  obtain ⟨l, q, hq⟩ := roleHeld_eq s
  rw [rollCallOut, hq]
  cases e <;> rfl

theorem port_rollCallOut_ne {e : End} {p : Port} (s : State) (h : p ≠ .line e) :
    (rollCallOut e s).port p = s.port p := by
  obtain ⟨l, q, hq⟩ := roleHeld_eq s
  rw [rollCallOut, port_enqueue_ne _ _ _ h, port_rollCalling, hq]
  rcases p with (_ | _) | _ <;> rfl

theorem queues_rollCallOut (e : End) (s : State) :
    Queues (.line e) [queued (leadFrame .call [1])] s (rollCallOut e s) := by
  obtain ⟨l, q, hq⟩ := roleHeld_eq s
  rw [rollCallOut, hq]
  exact (queues_enqueue _ _ _).of_port (by rw [port_rollCalling]; cases e <;> rfl)

/-- The end of the event in which a roll call starts: the LEAD STATUS goes to the cab port (R59). -/
theorem finish_rollCallOut {e : End} {s u : State} (hr : s.atRest) (hd : u.doors = s.doors) (hh : u.heat = s.heat)
    (ht : u.teff = s.teff) (hs : u.scratch = ⟨s.teff, false, none⟩) (hroom : u.roomFor .cab 1) :
    finish (rollCallOut e u) = ((rollCallOut e u).enqueue .cab (queued (leadStatusFrame (rollCallOut e u)))).withScratch
      Scratch.rest := by
  have hx := rollCallOut_eq e u
  have hport := port_rollCallOut_ne (e := e) (p := .cab) u (by simp)
  generalize rollCallOut e u = x at *
  have hdoors : x.doors = s.doors := (congrArg State.doors hx).trans hd
  have hheat : x.heat = { s.heat with cycleRec := none, grant := 0 } := by rw [← hh]; exact congrArg State.heat hx
  have hscratch : x.scratch = ⟨s.teff, true, none⟩ := by rw [congrArg State.scratch hx, hs]
  have hteff : x.teff = u.teff := teff_congr_record (hdoors.trans hd.symm) (by rw [hheat, hh])
    ((congrArg State.inputs hx).trans rfl) ((congrArg State.items hx).trans rfl)
  rw [finish_kept hr hdoors (hteff.trans ht) (by rw [hheat]) (by rw [hheat]) (by rw [hscratch]),
    flushStatus_room (by rw [hscratch]) (by rw [hscratch]) (by unfold State.roomFor; rwa [hport])]

/-- That event as a whole, from a state `u` that has the units of `s` the roll call goes by. -/
theorem rollCallStarted_of {e : End} {s u : State} (q : Queued) (hid : u.identity = s.identity) (hm : u.items = s.items)
    (hd : u.doors = s.doors) (hh : u.heat = s.heat) (hlead : u.lead = s.lead)
    (hport : ∀ e', u.port (.line e') = s.port (.line e')) :
    RollCallStarted e u.now s (((rollCallOut e u).enqueue .cab q).withScratch Scratch.rest) := by
  have hx := rollCallOut_eq e u
  have hqueue := queues_rollCallOut e u
  have hother : (rollCallOut e u).port (.line e.other) = u.port (.line e.other) :=
    port_rollCallOut_ne u (by cases e <;> decide)
  generalize rollCallOut e u = x at *
  have hline (e' : End) : ((x.enqueue .cab q).withScratch Scratch.rest).port (.line e') = x.port (.line e') := by
    rw [port_withScratch, port_enqueue_ne _ _ _ (by simp)]
  have hl : x.lead = _ := congrArg State.lead hx
  have hc : x.consist = _ := congrArg State.consist hx
  have hheat : x.heat = _ := congrArg State.heat hx
  have hseq : x.seq = (roleHeld u).seq.stopped := congrArg State.seq hx
  have hsurvey : x.survey = u.survey.stopped := congrArg State.survey hx
  have hdoors : x.doors = s.doors := (congrArg State.doors hx).trans hd
  have hitems : x.items = s.items := (congrArg State.items hx).trans hm
  have hitem (n : Nat) : u.itemN n = s.itemN n := by unfold State.itemN State.item; rw [hm]
  simp only [RollCallStarted, withScratch_lead, enqueue_lead, withScratch_consist, enqueue_consist, withScratch_survey,
    enqueue_survey, withScratch_seq, enqueue_seq, withScratch_doors, enqueue_doors, hline, hl, hc, hsurvey, hseq,
    hdoors, SurveyUnit.stopped, stopped_cycle, stopped_periodTimer, stopped_passTimer, stopped_budget, stopped_demand,
    stopped_period, State.start, hitem, true_and]
  refine ⟨⟨_, rfl, hid, rfl⟩, fun hr => ?_,
    ⟨leadFrame .call [1], ?_, rfl, rfl, by decide, rfl, rfl, mkFrame_checkGood ..⟩,
    hother.trans (hport _), (enqueue_items x _ _).trans hitems, ?_, ?_⟩
  · simpa only [hitem] using roleHeld_setup (s := u) (by rw [hlead, hr])
  · exact ((hline e).trans hqueue).trans (by rw [hport])
  all_goals rw [show ((x.enqueue .cab q).withScratch Scratch.rest).heat = x.heat from enqueue_heat x _ _, hheat, ← hh]

/-- The event in which a roll call starts as a whole, from a state `u` that has what it goes by of the state at rest
`s`. -/
theorem finish_leadRollCall {e : End} {s u : State} (hr : s.atRest) (hid : u.identity = s.identity)
    (hm : u.items = s.items) (hd : u.doors = s.doors) (hh : u.heat = s.heat) (ht : u.teff = s.teff)
    (hlead : u.lead = s.lead) (hport : ∀ e', u.port (.line e') = s.port (.line e'))
    (halive : ∀ e', u.alive e' = s.alive e') (ha : s.alive e = true) (hn : s.alive e.other = false)
    (hst : s.lead.state ≠ .calling) (hline : s.roomFor (.line e) 1) (hcab : u.roomFor .cab 1) :
    ∃ x : State, finish (leadRollCall (u.withScratch ⟨s.teff, false, none⟩)) =
        (x.enqueue .cab (queued (leadStatusFrame x))).withScratch Scratch.rest ∧ x.port .cab = u.port .cab ∧
      RollCallStarted e u.now s ((x.enqueue .cab (queued (leadStatusFrame x))).withScratch Scratch.rest) ∧
      x.lead.state = .calling := by
  set w := u.withScratch ⟨s.teff, false, none⟩ with hw
  have hwport (p : Port) : w.port p = u.port p := port_withScratch _ _ _
  have hwalive (e' : End) : w.alive e' = s.alive e' :=
    (show w.alive e' = u.alive e' by cases e' <;> rfl).trans (halive e')
  have hwline : w.roomFor (.line e) 1 := by unfold State.roomFor; rwa [hwport, hport]
  have hcall : leadRollCall w = rollCallOut e w := leadRollCall_oneNeighbour (by rw [hwalive, ha]) (by rw [hwalive, hn])
    (by rw [hw, withScratch_lead, hlead]; exact hst) hwline
  refine ⟨rollCallOut e w, ?_, ?_, ?_, ?_⟩
  · rw [hcall]
    exact finish_rollCallOut hr hd hh ht rfl (by unfold State.roomFor; rwa [hwport])
  · rw [port_rollCallOut_ne w (by simp), hwport]
  · exact rollCallStarted_of _ hid hm hd hh hlead fun e' => (hwport _).trans (hport e')
  · rw [rollCallOut_eq]

end Sys2Proof.Machine
end

section
/-! Requests with destination LOCAL on the cab port, and the statement about the lead-control requests (R45, R58, R156,
R186). -/

namespace Sys2Proof.Machine

/-- A frame heard at the cab port changes that port and its timers, and nothing else (R72). -/
theorem heard_cab_eq (s : State) : heard .cab s = { s with puC := (heard .cab s).puC, cab := (heard .cab s).cab } := by
  unfold heard passedChecks; dsimp only; split <;> rfl

namespace LocalRequest

variable {fixed : List Byte} {f : LineFrame} {s : State}

theorem atRest (h : LocalRequest fixed f s) : s.atRest := h.1.atRest
theorem room (h : LocalRequest fixed f s) : s.roomFor .cab 1 := h.2.2.2

end LocalRequest

/-! ### A request on the cab port (R38, R40, R181) -/

section request

variable {i : Instr} {fixed : List Byte} {f : LineFrame} {s : State}

/-- A request for the node itself on its cab port is executed, in the event of its arrival (R38, R40). -/
theorem exec_localRequest (ha : i.arriving = some (.cab, frameOf f .request fixed)) (h : LocalRequest fixed f s)
    (hk : knownCode (byteAt (fixed ++ f.body) 0) = true) (hlen : requestLength (fixed ++ f.body) = true) : exec i s =
      .next (finish (execute .cab (fixed ++ f.body) ((heard .cab s).withScratch ⟨s.teff, false, none⟩))) := by
  obtain ⟨hheard, hdest, hr, -⟩ := h
  set u := (heard .cab s).withScratch ⟨s.teff, false, none⟩ with hu
  have hrespond : respond .cab (fixed ++ f.body) u = execute .cab (fixed ++ f.body) u :=
    respond_executes hk (by rw [hu, withScratch_mgmt, heard_mgmt]; exact hr) hlen
  have hd : (frameOf f .request fixed).dest = 0 := hdest
  rw [exec_heard ha hheard (by simp [frameOf]), ← hu, ← hrespond]
  cases hrole : u.lead.role <;> simp [relay, hrole, relayCabLead, relayCabOther, frameOf, hdest]

/-- Its REPLY joins the cab port's queue. -/
theorem reply_cab {u : State} (code : Byte) (st : Status) (data : List Byte) (hroom : u.roomFor .cab 1) :
    reply .cab code st data u = u.enqueue .cab (queued (replyFrame u.consist.position code st data)) :=
  offer_room _ _ hroom

/-- The state of a node whose REPLY has joined the cab port's queue. -/
def replied (code : Byte) (st : Status) (data : List Byte) (s : State) : State :=
  (heard .cab s).enqueue .cab (queued (replyFrame s.consist.position code st data))

variable (code : Byte) (st : Status) (data : List Byte)

theorem reply_heard (c : Scratch) (hroom : s.roomFor .cab 1) :
    reply .cab code st data ((heard .cab s).withScratch c) = (replied code st data s).withScratch c := by
  rw [reply_cab _ _ _ (by simpa using hroom), enqueue_withScratch]
  simp [replied]

theorem replied_eq : replied code st data s =
    { s with puC := (replied code st data s).puC, cab := (replied code st data s).cab } := by
  rw [replied, heard_cab_eq]; rfl

theorem replied_keepsUnits : KeepsUnits s (replied code st data s) :=
  (heard_keepsUnits .cab s).trans (enqueue_keepsUnits ..)

theorem queues_replied : Queues .cab [queued (replyFrame s.consist.position code st data)] (heard .cab s)
    (replied code st data s) := queues_enqueue ..

theorem onlyReply_replied : OnlyReply code st data s (replied code st data s) := by
  refine ⟨⟨queues_replied .., fun q hq => ?_⟩, onlyPorts_enqueue ..⟩
  rw [replied, port_enqueue_ne _ _ _ hq, heard_port_ne _ _ hq]

/-- A request that is answered first, and goes on by `k`. -/
theorem exec_replied {k : State → State} (ha : i.arriving = some (.cab, frameOf f .request fixed))
    (h : LocalRequest fixed f s) (hk : knownCode (byteAt (fixed ++ f.body) 0) = true)
    (hlen : requestLength (fixed ++ f.body) = true) (hans : ∀ u : State, u.inputs = s.inputs → u.lead = s.lead →
      execute .cab (fixed ++ f.body) u = k (reply .cab code st data u)) :
    exec i s = .next (finish (k ((replied code st data s).withScratch ⟨s.teff, false, none⟩))) := by
  have hans' := hans ((heard .cab s).withScratch ⟨s.teff, false, none⟩) (heard_inputs .cab s) (heard_lead .cab s)
  rw [exec_localRequest ha h hk hlen, hans', reply_heard _ _ _ _ h.room]

/-- One that is answered with nothing else done. -/
theorem exec_onlyReply (ha : i.arriving = some (.cab, frameOf f .request fixed)) (h : LocalRequest fixed f s)
    (hk : knownCode (byteAt (fixed ++ f.body) 0) = true) (hlen : requestLength (fixed ++ f.body) = true)
    (hans : ∀ u : State, u.inputs = s.inputs → u.lead = s.lead →
      execute .cab (fixed ++ f.body) u = reply .cab code st data u) :
    ∃ t, exec i s = .next t ∧ OnlyReply code st data s t := by
  obtain ⟨hd, hh, hi, hm, hs⟩ := replied_keepsUnits (s := s) code st data
  refine ⟨_, (exec_replied code st data (k := id) ha h hk hlen hans).trans ?_, onlyReply_replied code st data⟩
  exact congrArg Host.Outcome.next (finish_unmoved h.atRest hd (teff_congr hd hh hi hm) (by rw [hh]) (by rw [hh]) hs)

end request

/-! ### The lead-control requests (R186) -/

theorem active_congr {s t : State} (h : t.inputs = s.inputs) (i : Input) : t.active i = s.active i := by
  unfold State.active State.input; rw [h]

theorem reply_lead (src : Source) (code : Byte) (st : Status) (data : List Byte) (s : State) :
    (reply src code st data s).lead = s.lead := by
  unfold reply; split
  · exact (congrArg State.lead (offerQueued_rest _ _ s) :)
  · rfl

theorem stopLead_calling {s : State} (h : s.lead.state = .calling) : stopLead s = failLead .stopped s := by
  rw [stopLead, h]

section obeyed

variable {f : LineFrame} {s : State}

/-- START ROLL CALL with one neighbour: the REPLY, and then the LEAD STATUS of the roll call (R45, log 20). -/
theorem startRollCall_obeyed {e : End} (h : LocalRequest [9] f s) (hb : f.body = []) (hkey : s.active .key = true)
    (ha : s.alive e = true) (hn : s.alive e.other = false) (hst : s.lead.state ≠ .calling) (hroom : s.roomFor .cab 2)
    (hline : s.roomFor (.line e) 1) : ∃ t g, exec (.startRollCall .cab f) s = .next t ∧ RollCallStarted e s.now s t ∧
      Queues .cab [queued (replyFrame s.consist.position 9 .done []), queued g] (heard .cab s) t ∧
      g.kind = .leadStatus ∧ g.payload = leadStatusPayload t ∧ byteAt g.payload 0 = 1 := by
  have hexec := exec_replied (k := leadRollCall) 9 .done [] (i := .startRollCall .cab f) rfl h (by rw [hb]; rfl)
    (by rw [hb]; rfl) fun u hu _ => by rw [hb]; exact if_neg (by rw [active_congr hu, hkey]; decide)
  have hu := replied_eq (s := s) 9 .done []
  have hk := replied_keepsUnits (s := s) 9 .done []
  have hq := queues_replied (s := s) 9 .done []
  have huroom : (replied 9 .done [] s).roomFor .cab 1 := by
    unfold State.roomFor at *; rw [hq]; simp; omega
  generalize replied 9 .done [] s = u at *
  have hualive (e' : End) : u.alive e' = s.alive e' := by rw [hu]; cases e' <;> rfl
  have huport (e' : End) : u.port (.line e') = s.port (.line e') := by rw [hu]; cases e' <;> rfl
  obtain ⟨x, hx, hxport, hstarted, hstate⟩ := finish_leadRollCall h.atRest (by rw [hu]) hk.items hk.doors hk.heat hk.teff
    (by rw [hu]) huport hualive ha hn hst hline huroom
  rw [hx] at hexec
  refine ⟨_, leadStatusFrame x, hexec, ?_, ?_, rfl, rfl, ?_⟩
  · rwa [show u.now = s.now by rw [hu]] at hstarted
  · refine ((queues_enqueue x .cab _).trans ?_ :)
    rw [hxport, hq]
    simp
  · show byteOf (leadStateCode x.lead.state) = 1
    rw [hstate]; rfl

/-- STOP in CALLING: the REPLY, and then the LEAD STATUS of the failed roll call (R58). -/
theorem stop_obeyed (h : LocalRequest [10] f s) (hb : f.body = []) (hkey : s.active .key = true)
    (hrole : s.lead.role = true) (hst : s.lead.state = .calling) (hpl : s.consist.state = .placing)
    (hroom : s.roomFor .cab 2) : ∃ t g, exec (.stop .cab f) s = .next t ∧
      t.lead = { s.lead with state := .failed, reason := .stopped, window := none, sendList := [] } ∧
      t.consist = { s.consist with placing := some (s.now + 3 * s.itemN Item.callWindow) } ∧
      Queues .cab [queued (replyFrame s.consist.position 10 .done []), queued g] (heard .cab s) t ∧
      g.kind = .leadStatus ∧ g.payload.take 2 = [5, 6] ∧
      { t with puC := s.puC, cab := s.cab, lead := s.lead, consist := s.consist } = s := by
  have hexec := exec_replied (k := failLead .stopped) 10 .done [] (i := .stop .cab f) rfl h (by rw [hb]; rfl)
    (by rw [hb]; rfl) fun u hu hl => by
      rw [hb]
      refine (if_neg (by rw [active_congr hu, hkey]; decide)).trans ((if_neg (by rw [hl, hrole]; decide)).trans ?_)
      exact stopLead_calling (by rw [reply_lead, hl, hst])
  have hu := replied_eq (s := s) 10 .done []
  have hk := replied_keepsUnits (s := s) 10 .done []
  have hq := queues_replied (s := s) 10 .done []
  have huroom : (replied 10 .done [] s).roomFor .cab 1 := by
    unfold State.roomFor at *; rw [hq]; simp; omega
  generalize replied 10 .done [] s = u at *
  have hulead : u.lead = s.lead := (congrArg State.lead hu).trans rfl
  have hucon : u.consist = s.consist := (congrArg State.consist hu).trans rfl
  obtain ⟨hlead, hcon, hnow, ⟨g, hg, hkind, hpay, -⟩, -, hrest⟩ := failLead_failsPlacing (r := .stopped) u.now
    (hk.atRest h.atRest) (by rw [hulead, hst]; decide) (by rw [hucon, hpl]) huroom
  have hend : finish (failLead .stopped (u.withScratch ⟨s.teff, false, none⟩)) =
      finish (failLead .stopped ((windowStopped u.now u).withScratch ⟨u.teff, false, none⟩)) := by rw [hk.teff]; rfl
  rw [← hend] at hlead hcon hnow hg hpay hrest
  generalize finish (failLead .stopped (u.withScratch ⟨s.teff, false, none⟩)) = t at *
  refine ⟨t, g, hexec, by rw [hlead, hulead], ?_, ?_, hkind, ?_, ?_⟩
  · rw [hcon, hucon, hu]; rfl
  · rw [Queues, hg, hq]; simp
  · rw [hpay, leadStatusPayload, hlead]; rfl
  · calc { t with puC := s.puC, cab := s.cab, lead := s.lead, consist := s.consist }
        = { { t with now := u.now, puC := u.puC, lead := u.lead, consist := u.consist } with
            puC := s.puC, cab := s.cab, lead := s.lead, consist := s.consist } := by rw [← hnow]
      _ = { u with puC := s.puC, cab := s.cab, lead := s.lead, consist := s.consist } := by rw [hrest]
      _ = s := by rw [hu]

/-- HEAT SETUP: the setup taken, and the REPLY (R156). -/
theorem heatSetup_obeyed {b p : Word} {d : Byte} (h : LocalRequest [11] f s)
    (hb : f.body = wordBytes b ++ [d] ++ wordBytes p) (hkey : s.active .key = true) (hrole : s.lead.role = true) :
    ∃ t, exec (.heatSetup .cab f) s = .next t ∧
      t.seq = { s.seq with
        budget := min 4000 b.toNat, demand := min 4 d.toNat, period := max 5 (min 300 p.toNat) } ∧
      OnlyReply 11 .done [] s { t with seq := s.seq } := by
  have hword (w : Word) : hiByte w ++ loByte w = w := wordAt_wordBytes w []
  have hexec := exec_replied (k := takeSetup b d p) 11 .done [] (i := .heatSetup .cab f) rfl h (by rw [hb]; rfl)
    (by rw [hb]; rfl) fun u hu hl => by
      rw [hb]
      refine (if_neg (by rw [active_congr hu, hkey]; decide)).trans ((if_neg (by rw [hl, hrole]; decide)).trans ?_)
      show takeSetup (hiByte b ++ loByte b) d (hiByte p ++ loByte p) _ = takeSetup b d p _
      rw [hword, hword]
  have hu := replied_eq (s := s) 11 .done []
  obtain ⟨hd, hh, hi, hm, hs⟩ := replied_keepsUnits (s := s) 11 .done []
  have hq := onlyReply_replied (s := s) 11 .done []
  generalize replied 11 .done [] s = u at *
  have hend : finish (takeSetup b d p (u.withScratch ⟨s.teff, false, none⟩)) = takeSetup b d p u :=
    finish_unmoved (t := takeSetup b d p u) h.atRest hd (teff_congr (t := takeSetup b d p u) hd hh hi hm)
      (congrArg Heat.level hh) (congrArg Heat.raise hh) hs
  have huseq : u.seq = s.seq := (congrArg State.seq hu).trans rfl
  refine ⟨_, by rw [hexec, hend], by rw [takeSetup, huseq], ?_⟩
  have hback : { takeSetup b d p u with seq := s.seq } = u := by rw [← huseq]; rfl
  rwa [hback]

end obeyed

/-- Settles O55: refused without the KEY; and with it, START ROLL CALL, STOP and HEAT SETUP in turn. -/
theorem leadControlIsObeyed : Obligations.LeadControlIsObeyed := by
  refine ⟨fun i f s hkey => ⟨?_, ?_, ?_⟩, ?_, ?_, ?_⟩
  · rintro ⟨rfl, h, hb⟩
    refine exec_onlyReply _ _ _ rfl h (by rw [hb]; rfl) (by rw [hb]; rfl) fun u hu _ => ?_
    rw [hb]; exact if_pos ((active_congr hu .key).trans hkey)
  · rintro ⟨rfl, h, hb⟩
    refine exec_onlyReply _ _ _ rfl h (by rw [hb]; rfl) (by rw [hb]; rfl) fun u hu _ => ?_
    rw [hb]; exact if_pos ((active_congr hu .key).trans hkey)
  · rintro ⟨rfl, h, hb⟩
    refine exec_onlyReply _ _ _ rfl h rfl (by simp [requestLength, byteAt, hb]) fun u hu _ => ?_
    exact if_pos ((active_congr hu .key).trans hkey)
  · exact fun f s e h hb hkey ha hn hst => startRollCall_obeyed h hb hkey ha hn hst
  · exact fun f s h => stop_obeyed h
  · exact fun f s b p d h => heatSetup_obeyed h

end Sys2Proof.Machine
end

section
/-! The roster send list: what it offers to the outward queue, and the ROSTER frames of a confirm round (R53, R54). -/

namespace Sys2Proof.Machine

/-! ### Frames offered one after another (R13) -/

/-- The state with `qs` joined behind the queue of port `p`. -/
def State.enqueueAll (s : State) (p : Port) (qs : List Queued) : State :=
  s.setPort p { s.port p with queue := (s.port p).queue ++ qs }

section enqueueAll

variable (s : State) (p : Port) (e : End) (qs : List Queued)

theorem enqueueAll_nil : s.enqueueAll p [] = s := by
  rw [State.enqueueAll, List.append_nil]; exact setPort_port s p

theorem enqueue_enqueueAll (q : Queued) : (s.enqueue p q).enqueueAll p qs = s.enqueueAll p (q :: qs) := by
  simp [State.enqueueAll, State.enqueue]

theorem enqueueAll_enqueue (q : Queued) : (s.enqueueAll p qs).enqueue p q = s.enqueueAll p (qs ++ [q]) := by
  simp [State.enqueueAll, State.enqueue]

theorem queues_enqueueAll : Queues p qs s (s.enqueueAll p qs) := port_setPort _ _ _

theorem port_enqueueAll_ne {x : Port} (h : x ≠ p) : (s.enqueueAll p qs).port x = s.port x := port_setPort_ne _ _ h

/-- At an end port it touches that port's unit alone. -/
theorem enqueueAll_line : s.enqueueAll (.line e) qs =
    { s with pu1 := (s.enqueueAll (.line e) qs).pu1, pu2 := (s.enqueueAll (.line e) qs).pu2 } := by cases e <;> rfl

end enqueueAll

/-! ### The send list (R53) -/

section list

variable {e : End} {s : State}

theorem hasSlot_of_lt {p : Port} (h : (s.port p).queue.length < 4) : s.hasSlot p = true := decide_eq_true h

theorem outwardPresent_of (he : s.consist.leadEnd = some e.other) (ha : s.alive e = true) :
    s.outwardPresent = true := by
  simp [State.outwardPresent, outwardEnd_of he, ha]

/-- A lead with a neighbour beyond it is not the end node (R30). -/
theorem not_endNode_of (he : s.consist.leadEnd = some e.other) (ha : s.alive e = true) : s.endNode = false := by
  simp [State.endNode, outwardPresent_of he ha]

/-- A frame of the list with a free slot for it, at a lead with a neighbour. -/
theorem offerList_cons {f : Frame} {rest : List Frame} (he : s.consist.leadEnd = some e.other) (ha : s.alive e = true)
    (hroom : (s.port (.line e)).queue.length < 4) :
    offerList (f :: rest) s = offerList rest (s.enqueue (.line e) (queued f)) := by
  have hout : s.outwardEnd = some e := by simpa using outwardEnd_of he
  rw [offerList, if_neg (by rw [not_endNode_of he ha]; simp), if_pos (by rw [State.outwardSlot, hout]; exact hasSlot_of_lt hroom), hout,
    offerEnd_room _ _ (by unfold State.roomFor; omega)]
  rfl

/-- As many frames as there are free slots go from the head of the list, in order. -/
theorem offerList_append {now later : List Frame} (he : s.consist.leadEnd = some e.other) (ha : s.alive e = true)
    (hroom : (s.port (.line e)).queue.length + now.length ≤ 4) :
    offerList (now ++ later) s = offerList later (s.enqueueAll (.line e) (now.map queued)) := by
  induction now generalizing s with
  | nil => rw [List.nil_append, List.map_nil, enqueueAll_nil]
  | cons f now ih =>
    have hq : ((s.enqueue (.line e) (queued f)).port (.line e)).queue = (s.port (.line e)).queue ++ [queued f] :=
      congrArg PortUnit.queue (queues_enqueue s (.line e) (queued f))
    rw [List.length_cons] at hroom
    rw [List.cons_append, offerList_cons he ha (by omega), ih (by rwa [enqueue_consist]) (by cases e <;> exact ha)
      (by rw [hq, List.length_append, List.length_singleton]; omega), enqueue_enqueueAll, List.map_cons]

/-- What finds no slot stays in the list. -/
theorem offerList_noSlot {f : Frame} {rest : List Frame} (he : s.consist.leadEnd = some e.other) (ha : s.alive e = true)
    (hfull : (s.port (.line e)).queue.length = 4) :
    offerList (f :: rest) s = { s with lead := { s.lead with sendList := f :: rest } } := by
  have hout : s.outwardEnd = some e := by simpa using outwardEnd_of he
  have hslot : s.outwardSlot = false := by simp [State.outwardSlot, hout, State.hasSlot, hfull, queueSlots]
  rw [offerList, if_neg (by rw [not_endNode_of he ha]; simp), if_neg (by rw [hslot]; decide)]

/-! ### The list given out in full, and the CONFIRM behind it (R54) -/

/-- A lead that has entered CONFIRMING with `qs` joined behind its outward queue and `later` left in its send list. -/
def confirmingWith (e : End) (qs : List Queued) (later : List Frame) (s : State) : State :=
  { s.enqueueAll (.line e) qs with
    lead := { s.lead with state := .confirming, sendList := later }
    scratch := { s.scratch with statusDue := true } }

theorem confirmingWith_queue (qs : List Queued) (later : List Frame) :
    ((confirmingWith e qs later s).port (.line e)).queue = (s.port (.line e)).queue ++ qs := by
  cases e <;> rfl

theorem confirmingWith_enqueue (qs : List Queued) (later : List Frame) (q : Queued) :
    (confirmingWith e qs later s).enqueue (.line e) q = confirmingWith e (qs ++ [q]) later s := by
  unfold confirmingWith
  rw [← enqueueAll_enqueue]
  cases e <;> rfl

theorem drainList_offered {fs : List Frame} (hst : s.lead.state = .rostering) (he : s.consist.leadEnd = some e.other)
    (ha : s.alive e = true) (hlist : s.lead.sendList = fs)
    (hroom : (s.port (.line e)).queue.length + fs.length ≤ 4) : drainList s =
      (offerList [leadConfirm s.consist.length s.consist.check] (confirmingWith e (fs.map queued) [] s), none) := by
  have hoffer : offerList s.lead.sendList s =
      { s.enqueueAll (.line e) (fs.map queued) with lead := { s.lead with sendList := [] } } := by
    rw [hlist, ← List.append_nil fs, offerList_append he ha (by simpa using hroom), offerList, List.append_nil,
      enqueueAll_line]
  have hset : setLead .confirming s.lead.reason
      { s.enqueueAll (.line e) (fs.map queued) with lead := { s.lead with sendList := [] } } =
        confirmingWith e (fs.map queued) [] s := by
    have hdue (b : Bool) : (b || LeadState.confirming != s.lead.state || s.lead.reason != s.lead.reason) = true := by
      simp [hst]
    rw [enqueueAll_line, setLead, confirmingWith, enqueueAll_line]
    simp only [hdue]
  have hout : (confirmingWith e (fs.map queued) [] s).outwardPresent = true := by
    cases e <;> exact outwardPresent_of he ha
  have hdata : leadFrame .confirm (confirmingWith e (fs.map queued) [] s).confirmData.payload =
      leadConfirm s.consist.length s.consist.check := by cases e <;> rfl
  rw [drainList, hoffer]
  refine (if_pos ⟨hst, rfl⟩).trans ?_
  rw [hset]
  exact (if_pos hout).trans (by rw [hdata])

/-- With a slot for it too, the CONFIRM follows the last ROSTER. -/
theorem drainList_whole {fs : List Frame} (hst : s.lead.state = .rostering) (he : s.consist.leadEnd = some e.other)
    (ha : s.alive e = true) (hlist : s.lead.sendList = fs) (hroom : (s.port (.line e)).queue.length + fs.length < 4) :
    drainList s = (confirmingWith e (fs.map queued ++ [queued (leadConfirm s.consist.length s.consist.check)]) [] s,
      none) := by
  rw [drainList_offered hst he ha hlist (by omega), offerList_cons (e := e) (by cases e <;> exact he)
    (by cases e <;> exact ha) (by rw [confirmingWith_queue]; simpa using hroom)]
  rw [confirmingWith_enqueue]
  rfl

/-- Without one it waits in the list. -/
theorem drainList_confirmWaits {fs : List Frame} (hst : s.lead.state = .rostering)
    (he : s.consist.leadEnd = some e.other) (ha : s.alive e = true) (hlist : s.lead.sendList = fs)
    (hfull : (s.port (.line e)).queue.length + fs.length = 4) :
    drainList s = (confirmingWith e (fs.map queued) [leadConfirm s.consist.length s.consist.check] s, none) := by
  rw [drainList_offered hst he ha hlist (by omega), offerList_noSlot (e := e) (by cases e <;> exact he)
    (by cases e <;> exact ha) (by rw [confirmingWith_queue]; simpa using hfull)]
  rfl

/-- A list longer than the free slots leaves the lead in ROSTERING, with the rest of the list. -/
theorem drainList_partial {now later : List Frame} (he : s.consist.leadEnd = some e.other) (ha : s.alive e = true)
    (hlist : s.lead.sendList = now ++ later) (hlater : later ≠ [])
    (hfull : (s.port (.line e)).queue.length + now.length = 4) : drainList s =
      ({ s.enqueueAll (.line e) (now.map queued) with lead := { s.lead with sendList := later } }, none) := by
  obtain ⟨f, rest, rfl⟩ := List.exists_cons_of_ne_nil hlater
  have hq : ((s.enqueueAll (.line e) (now.map queued)).port (.line e)).queue =
      (s.port (.line e)).queue ++ now.map queued := congrArg PortUnit.queue (queues_enqueueAll ..)
  have hoffer : offerList s.lead.sendList s =
      { s.enqueueAll (.line e) (now.map queued) with lead := { s.lead with sendList := f :: rest } } := by
    rw [hlist, offerList_append he ha hfull.le, offerList_noSlot (e := e) (by cases e <;> exact he)
      (by cases e <;> exact ha) (by rw [hq]; simpa using hfull), enqueueAll_line]
  rw [drainList, hoffer]
  exact if_neg (by simp)

end list

/-! ### The ROSTER frames of a round (R53) -/

/-- A frame for every four places, each with its share of them. -/
theorem rosterFrames_eq (fuel first : Nat) (l : List (Option CoachRecord)) (h : l.length ≤ 4 * fuel) :
    rosterFrames fuel first l = (List.range ((l.length + 3) / 4)).map fun k => leadFrame .roster
      ([byteOf (first + 4 * k), byteOf (min 4 (l.length - 4 * k))] ++
        ((l.drop (4 * k)).take 4).flatMap placeBytes) := by
  induction fuel generalizing first l with
  | zero => rw [List.eq_nil_of_length_eq_zero (by omega : l.length = 0)]; rfl
  | succ fuel ih =>
    cases l with
    | nil => rfl
    | cons x xs =>
      have hcount : ((x :: xs).length + 3) / 4 = (((x :: xs).drop 4).length + 3) / 4 + 1 := by
        rw [List.length_drop, List.length_cons]; omega
      rw [rosterFrames, ih _ _ (by rw [List.length_drop]; omega), hcount, List.range_succ_eq_map, List.map_cons,
        List.map_map]
      congr 1
      · rw [List.length_take]; rfl
      · refine List.map_congr_left fun k _ => ?_
        simp only [Function.comp_apply, List.drop_drop, List.length_drop]
        rw [show first + 4 + 4 * k = first + 4 * k.succ by omega, show 4 + 4 * k = 4 * k.succ by omega,
          show (x :: xs).length - 4 - 4 * k = (x :: xs).length - 4 * k.succ by omega]

/-- The list of a round over `n` positions, and the CONFIRM behind it, are the frames of the round. -/
theorem roundFrames_eq (t : ConsistTable) {n : Nat} (h : n ≤ 32) : roundFrames t n =
    (rosterFrames 8 1 (t.list.take n)).map queued ++ [queued (leadConfirm n (consistCheck t n))] := by
  have hlen : (t.list.take n).length = n := by rw [List.length_take, t.size]; omega
  rw [roundFrames, rosterFrames_eq 8 1 _ (by omega), hlen, List.map_map]
  congr 1
  refine List.map_congr_left fun k _ => ?_
  rw [Function.comp_apply, List.drop_take, List.take_take, Nat.add_comm]

theorem length_rosterFrames (t : ConsistTable) {n : Nat} (h : n ≤ 32) :
    (rosterFrames 8 1 (t.list.take n)).length = (n + 3) / 4 := by
  have hlen : (t.list.take n).length = n := by rw [List.length_take, t.size]; omega
  rw [rosterFrames_eq 8 1 _ (by omega), hlen, List.length_map, List.length_range]

end Sys2Proof.Machine
end

section
/-! Confirm rounds that fit the outward queue, and the statement about the round that a TAIL begins and about the roster
send list (R51, R53, R54). -/

namespace Sys2Proof.Machine

/-! ### The lead's entry into CONFIRMING (R54, R59) -/

/-- The end of the event: one LEAD STATUS. -/
theorem finish_confirmingWith {e : End} {qs : List Queued} {later : List Frame} {s w : State} (hr : s.atRest)
    (hk : KeepsUnits s (w.withScratch s.scratch)) (hteff : w.scratch.teff = s.teff) (hm : w.scratch.missed = none)
    (hroom : w.roomFor .cab 1) : finish (confirmingWith e qs later w) = ((confirmingWith e qs later w).enqueue .cab
      (queued (leadStatusFrame (confirmingWith e qs later w)))).withScratch Scratch.rest := by
  have hroom' : (confirmingWith e qs later w).roomFor .cab 1 := by cases e <;> exact hroom
  have hk' : KeepsUnits s ((confirmingWith e qs later w).withScratch s.scratch) := by cases e <;> exact hk
  rw [finish_settled hr hk' hteff, flushStatus_room (s := confirmingWith e qs later w) rfl hm hroom']

/-! ### A round that fits the outward queue (R53) -/

/-- The state `u` at the moment `clock`, with the lead machine and the consist unit given. -/
def State.atRound (clock : Nat) (l : Lead) (c : Consist) (u : State) : State :=
  { u with now := clock, lead := l, consist := c }

section round

variable {e : End} {clock : Nat} {l : Lead} {c : Consist} {u : State}

theorem beginRounds_fits {fuel : Nat} {s : State} (he : s.consist.leadEnd = some e.other) (ha : s.alive e = true)
    (hroom : (s.port (.line e)).queue.length + (s.consist.length + 3) / 4 + 1 ≤ 4) : beginRounds (fuel + 1) s =
      confirmingWith e (roundFrames s.consist.table s.consist.length) [] (startRound s) := by
  have hn : s.consist.length ≤ 32 := by omega
  have hport : (startRound s).port (.line e) = s.port (.line e) := by cases e <;> rfl
  have hlist := length_rosterFrames s.consist.table hn
  have hdrain := drainList_whole (e := e) (s := startRound s) (fs := rosterFrames 8 1 (s.consist.table.list.take
    s.consist.length)) rfl he (by cases e <;> exact ha) rfl (by rw [hport, hlist]; omega)
  rw [beginRounds, hdrain, roundFrames_eq _ hn]
  rfl

/-- The whole round goes into the outward queue in the event that begins it, and the LEAD STATUS with it. -/
theorem roundSent_beginRounds {fuel : Nat} (hr : u.atRest) (he : c.leadEnd = some e.other) (ha : u.alive e = true)
    (hroom : (u.port (.line e)).queue.length + (c.length + 3) / 4 + 1 ≤ 4) (hcab : u.roomFor .cab 1) :
    ∃ t, finish (beginRounds (fuel + 1) ((u.atRound clock l c).withScratch ⟨u.teff, false, none⟩)) = t ∧
      RoundSent e clock u t ∧
      t.lead = { l with state := .confirming, window := some (clock + u.itemN Item.callWindow), sendList := [] } ∧
      t.consist = { c with check := consistCheck c.table c.length } := by
  set w := (u.atRound clock l c).withScratch ⟨u.teff, false, none⟩
  have hbegin : beginRounds (fuel + 1) w = confirmingWith e (roundFrames c.table c.length) [] (startRound w) :=
    beginRounds_fits he (by cases e <;> exact ha) (by cases e <;> exact hroom)
  have hend := finish_confirmingWith (e := e) (qs := roundFrames c.table c.length) (later := []) (s := u)
    (w := startRound w) hr ⟨rfl, rfl, rfl, rfl, rfl⟩ rfl rfl hcab
  refine ⟨_, rfl, ?_⟩
  rw [hbegin, hend]
  refine ⟨⟨?_, ?_, ?_, ?_, ?_, ?_, statusSent_enqueue _ ?_, ?_, ?_⟩, ?_, ?_⟩
  case refine_9 => rw [← hr.1]; cases e <;> rfl
  all_goals cases e <;> rfl

end round

/-! ### The roster send list goes on (R53, R54) -/

section goesOn

variable {e : End} {s : State}

theorem exec_rosterSendList {x : State} (hlow : s.supplyLow = false) (hlist : s.lead.sendList ≠ [])
    (hd : drainList (s.withScratch ⟨s.teff, false, none⟩) = (x, none)) : exec .rosterSendList s = .next (finish x) := by
  have hgo : sendListGoesOn (s.withScratch ⟨s.teff, false, none⟩) = x := by
    rw [sendListGoesOn, hd]; exact if_neg hlist
  show event sendListGoesOn s = _
  rw [event_of _ hlow, begin_eq_withScratch, hgo]

/-- More frames than free slots: the first go, and nothing else changes. -/
theorem rosterSendList_partial {now later : List Frame} (hlow : s.supplyLow = false) (hr : s.atRest)
    (he : s.consist.leadEnd = some e.other) (ha : s.alive e = true) (hlist : s.lead.sendList = now ++ later)
    (hlater : later ≠ []) (hfull : (s.port (.line e)).queue.length + now.length = 4) :
    exec .rosterSendList s = .next
      { s.enqueueAll (.line e) (now.map queued) with lead := { s.lead with sendList := later } } := by
  set t := { s.enqueueAll (.line e) (now.map queued) with lead := { s.lead with sendList := later } } with ht
  have hdrain := drainList_partial (e := e) (s := s.withScratch ⟨s.teff, false, none⟩) he (by cases e <;> exact ha)
    hlist hlater (by cases e <;> exact hfull)
  have hstate : { (s.withScratch ⟨s.teff, false, none⟩).enqueueAll (.line e) (now.map queued) with
      lead := { s.lead with sendList := later } } = t.withScratch ⟨s.teff, false, none⟩ := by cases e <;> rfl
  rw [exec_rosterSendList hlow (by rw [hlist]; simp [hlater]) (hdrain.trans (congrArg (·, none) hstate))]
  have hteff : t.teff = s.teff := by
    refine teff_congr ?_ ?_ ?_ ?_ <;> cases e <;> rfl
  have hheat : t.heat = s.heat := by cases e <;> rfl
  exact congrArg Host.Outcome.next (finish_unmoved hr (by cases e <;> rfl) hteff (by rw [hheat]) (by rw [hheat])
    (by cases e <;> rfl))

/-- The last one offered: the lead enters CONFIRMING, and one LEAD STATUS shows it. -/
theorem rosterSendList_last {qs : List Queued} {later : List Frame} (hlow : s.supplyLow = false) (hr : s.atRest)
    (hlist : s.lead.sendList ≠ []) (hcab : s.roomFor .cab 1)
    (hd : drainList (s.withScratch ⟨s.teff, false, none⟩) =
      (confirmingWith e qs later (s.withScratch ⟨s.teff, false, none⟩), none)) :
    ∃ t, exec .rosterSendList s = .next t ∧ StatusSent t s t ∧ t.port (.line e.other) = s.port (.line e.other) ∧
      t.lead = { s.lead with state := .confirming, sendList := later } ∧ Queues (.line e) qs s t ∧
      { t with pu1 := s.pu1, pu2 := s.pu2, puC := s.puC, lead := s.lead } = s := by
  have hend := finish_confirmingWith (e := e) (qs := qs) (later := later) (s := s)
    (w := s.withScratch ⟨s.teff, false, none⟩) hr ⟨rfl, rfl, rfl, rfl, rfl⟩ rfl rfl hcab
  have hexec := exec_rosterSendList hlow hlist hd
  rw [hend] at hexec
  refine ⟨_, hexec, statusSent_enqueue _ ?_, ?_, ?_, ?_, ?_⟩
  all_goals generalize s.teff = level
  case refine_5 => rw [← hr.1]; cases e <;> rfl
  all_goals cases e <;> rfl

end goesOn

/-! ### A TAIL without gaps (R51) -/

theorem takeTail_complete {d : TailData} {s : State} (hst : s.lead.state = .calling) (hc : d.conflict = false)
    (ho : d.overflow = false) (h2 : 2 ≤ d.last.toNat) (hfilled : tableFilled s.consist.table d.last.toNat = true) :
    takeTail d s = beginRounds 3 { s with
      lead := { s.lead with window := none, round := 1 }
      consist := { s.consist with table := s.consist.table.keep d.last.toNat none, length := d.last.toNat } } := by
  simp [takeTail, hst, hc, ho, h2, hfilled]

/-- Settles O26: the list that is longer than the free slots, the one that fits, and the round that a TAIL begins. -/
theorem sendListFillsFreeSlots : Obligations.SendListFillsFreeSlots := by
  refine ⟨?_, ?_, ?_⟩
  · intro s e now later hlow hr _ _ he ha hlist hlater _ hfull
    refine ⟨_, rosterSendList_partial hlow hr he ha hlist hlater hfull, ?_, rfl, ?_, ?_⟩
    · cases e <;> rfl
    · intro q hq
      rw [← port_enqueueAll_ne s (.line e) (now.map queued) hq]
      rcases q with (_ | _) | _ <;> rfl
    · cases e <;> rfl
  · intro s e fs hlow hr hst _ he ha hcab hlist hne _ hroom
    by_cases hlt : (s.port (.line e)).queue.length + fs.length < 4
    · obtain ⟨t, hexec, hsent, hother, hlead, hq, hrest⟩ := rosterSendList_last hlow hr (by rw [hlist]; exact hne) hcab
        (drainList_whole (s := s.withScratch ⟨s.teff, false, none⟩) hst he (by cases e <;> exact ha) hlist
          (by cases e <;> exact hlt))
      exact ⟨t, hexec, hsent, hother, by rw [if_pos hlt]; exact ⟨hlead, hq⟩, hrest⟩
    · obtain ⟨t, hexec, hsent, hother, hlead, hq, hrest⟩ := rosterSendList_last hlow hr (by rw [hlist]; exact hne) hcab
        (drainList_confirmWaits (s := s.withScratch ⟨s.teff, false, none⟩) hst he (by cases e <;> exact ha) hlist
          (by rw [port_withScratch]; omega))
      exact ⟨t, hexec, hsent, hother, by rw [if_neg hlt]; exact ⟨hlead, hq⟩, hrest⟩
  · intro e f s n ⟨h, hacc, hpl, h1, hrole, he⟩ ha hst hc ho hn h2 h32 hfull hroom hcab
    have hexec := exec_consumed (i := .tail (.line e) f) rfl h hpl h1 hrole he hacc (tail_leadward hacc)
    have hk := heard_keepsUnits (.line e) s
    have hu := heard_consist_of_alive ha
    have hulead := heard_lead (.line e) s
    have hunow := heard_now (.line e) s
    have hucab := (heard_roomFor (.line e) .cab s 1).2 hcab
    have huqueue := heard_queue (.line e) s (.line e)
    have huat := hk.atRest h.atRest
    have hualive := heard_alive_self e s
    generalize heard (.line e) s = u at *
    have hfilled : tableFilled u.consist.table n = true := by rw [hu]; exact tableFilled_iff.2 ⟨h32, hfull⟩
    have htail := takeTail_complete (d := TailData.ofPayload f.body) (s := u.withScratch ⟨s.teff, false, none⟩)
      (by rw [withScratch_lead, hulead, hst]) hc ho (by rw [← hn] at h2; exact h2)
      (by rw [← hn] at hfilled; exact hfilled)
    obtain ⟨t, hend, hsent, htlead, htcon⟩ := roundSent_beginRounds (e := e) (fuel := 2) (clock := u.now)
      (l := { u.lead with window := none, round := 1 })
      (c := { u.consist with table := u.consist.table.keep n none, length := n }) huat (by rw [hu, he]) hualive
      (by rw [huqueue]; exact hroom) hucab
    have hstart : takeTail (TailData.ofPayload f.body) (u.withScratch ⟨s.teff, false, none⟩) =
        beginRounds 3 ((u.atRound u.now { u.lead with window := none, round := 1 }
          { u.consist with table := u.consist.table.keep n none, length := n }).withScratch ⟨u.teff, false, none⟩) := by
      rw [htail, ← hk.teff, ← hn]; rfl
    rw [← hstart] at hend
    refine ⟨t, hexec.trans (congrArg Host.Outcome.next hend), hunow ▸ hsent, ?_⟩
    rw [htlead, htcon, hulead, hu]
    refine ⟨rfl, rfl, hrole, rfl, fun p hp hp' => recordAt_keep _ hp hp', hpl, h1, rfl⟩

end Sys2Proof.Machine
end

section
/-! The lead's entry into LEADING with a neighbour, rounds that fail, and the statement about reflected CONFIRMs and the
call window (R55, R56, R57, R78, R157). -/

namespace Sys2Proof.Machine

/-! ### A confirm round fails (R55) -/

section fails

variable {e : End} {clock : Nat} {u : State}

/-- After the first and the second round the next one is sent whole, in the same event. -/
theorem roundSent_roundFailed (hr : u.atRest) (he : u.consist.leadEnd = some e.other) (ha : u.alive e = true)
    (hround : u.lead.round < 3)
    (hroom : (u.port (.line e)).queue.length + (u.consist.length + 3) / 4 + 1 ≤ 4) (hcab : u.roomFor .cab 1) :
    ∃ t, finish (roundFailed ((windowStopped clock u).withScratch ⟨u.teff, false, none⟩)) = t ∧ RoundSent e clock u t ∧
      t.lead = { u.lead with
        state := .confirming, round := u.lead.round + 1, window := t.lead.window, sendList := [] } ∧
      { t.consist with check := u.consist.check } = u.consist := by
  obtain ⟨t, hend, hsent, hlead, hcon⟩ := roundSent_beginRounds (e := e) (fuel := 2) (clock := clock)
    (l := { u.lead with window := none, sendList := [], round := u.lead.round + 1 }) (c := u.consist) hr he ha hroom
    hcab
  have hfail : roundFailed ((windowStopped clock u).withScratch ⟨u.teff, false, none⟩) = beginRounds 3
      ((u.atRound clock { u.lead with window := none, sendList := [], round := u.lead.round + 1 } u.consist).withScratch
        ⟨u.teff, false, none⟩) := if_pos hround
  exact ⟨t, by rw [hfail, hend], hsent, by rw [hlead], by rw [hcon]⟩

/-- After the third the roll call fails. -/
theorem roundFailed_third (h : 3 ≤ u.lead.round) : roundFailed u = failLead .confirm u := if_neg (by omega)

theorem failsPlacing_roundFailed (hr : u.atRest) (hst : u.lead.state ≠ .failed) (hpl : u.consist.state = .placing)
    (hround : 3 ≤ u.lead.round) (hcab : u.roomFor .cab 1) : FailsPlacing .confirm clock u
      (finish (roundFailed ((windowStopped clock u).withScratch ⟨u.teff, false, none⟩))) := by
  rw [roundFailed_third (u := (windowStopped clock u).withScratch ⟨u.teff, false, none⟩) hround]
  exact failLead_failsPlacing clock hr hst hpl hcab

end fails

theorem takeReflectedConfirm_failsRound {hop : Nat} {d : ConfirmData} {s : State} (hst : s.lead.state = .confirming)
    (hbad : confirmGood hop d s = false) :
    takeReflectedConfirm hop d s = roundFailed { s with lead := { s.lead with window := none } } := by
  have hbad' : confirmGood hop d { s with lead := { s.lead with window := none } } = false := hbad
  exact (if_pos hst).trans (if_neg (by rw [hbad']; decide))

theorem takeReflectedConfirm_leads {hop : Nat} {d : ConfirmData} {s : State} (hst : s.lead.state = .confirming)
    (hgood : confirmGood hop d s = true) :
    takeReflectedConfirm hop d s = enterLeading { s with lead := { s.lead with window := none } } := by
  have hgood' : confirmGood hop d { s with lead := { s.lead with window := none } } = true := hgood
  exact (if_pos hst).trans (if_pos hgood')

theorem windowExpired_round {s : State} (h : s.lead.state = .rostering ∨ s.lead.state = .confirming) :
    windowExpired s = roundFailed { s with lead := { s.lead with window := none } } := by
  rcases h with h | h <;> simp only [windowExpired, h]

/-- The call window of a round (R55). -/
theorem exec_windowExpiry_round {s : State} {d : Nat} (hs : s.supplyLow = false) (hd : s.lead.window = some d)
    (hst : s.lead.state = .rostering ∨ s.lead.state = .confirming) :
    exec .callWindowExpiry s = .next (finish (roundFailed
      ((windowStopped (max s.now d) s).withScratch ⟨s.teff, false, none⟩))) := by
  show event (onExpiry s.lead.window windowExpired) s = _
  rw [event_of _ hs, hd, onExpiry_some, windowExpired_round (s := (begin s).reach d) hst]
  rfl

/-! ### LEADING (R56, R78, R157) -/

/-- A pass computation touches the cycle record alone (R163, R167). -/
theorem computePass_eq (d : PassData) (s : State) : ∃ r g,
    (computePass d s).2 = { s with heat := { s.heat with cycleRec := r, grant := g } } := by
  have hgrant (s : State) : ∃ g, (decideGrant d s).2 = { s with heat := { s.heat with grant := g } } := by
    unfold decideGrant
    split_ifs
    · exact ⟨_, rfl⟩
    · exact ⟨s.heat.grant, rfl⟩
    · exact ⟨s.heat.grant, rfl⟩
  have hrecord : ∃ r g, (updateRecord d s).1 = { s with heat := { s.heat with cycleRec := r, grant := g } } := by
    unfold updateRecord
    split_ifs
    · exact ⟨s.heat.cycleRec, s.heat.grant, rfl⟩
    · exact ⟨_, _, rfl⟩
    · exact ⟨s.heat.cycleRec, s.heat.grant, rfl⟩
  obtain ⟨r, g, hr⟩ := hrecord
  unfold computePass
  split
  · generalize hu : updateRecord d s = p at hr ⊢
    obtain ⟨t, b⟩ := p
    dsimp only at hr
    subst hr
    cases b
    · exact ⟨r, g, rfl⟩
    · obtain ⟨g', hg⟩ := hgrant { s with heat := { s.heat with cycleRec := r, grant := g } }
      exact ⟨r, g', hg⟩
  · exact ⟨s.heat.cycleRec, s.heat.grant, rfl⟩

/-- With a neighbour beyond it, a level of a cycle is a HEAT PASS offered outward (R158). -/
theorem sendLevels_neighbour {e : End} {s : State} (fuel : Nat) (c : Cycle) (w : Word)
    (he : s.consist.leadEnd = some e.other) (ha : s.alive e = true) : ∃ r g f, sendLevels (fuel + 1) c w s =
      offer (.line e) f defaultRate { s with
        heat := { s.heat with cycleRec := r, grant := g }
        seq := { s.seq with cycle := some c, passTimer := s.start (s.itemN Item.passTimeout) } } := by
  obtain ⟨r, g, hcp⟩ := computePass_eq ⟨s.seq.number, byteOf c.level, w, 0, 0, byteOf c.demand⟩ s
  unfold sendLevels
  generalize computePass ⟨s.seq.number, byteOf c.level, w, 0, 0, byteOf c.demand⟩ s = p at hcp ⊢
  obtain ⟨d, t⟩ := p
  dsimp only at hcp
  subst hcp
  have hout : s.outwardEnd = some e := by simpa using outwardEnd_of he
  refine ⟨r, g, leadFrame .heatPass d.payload, ?_⟩
  refine (if_neg fun h => absurd (show s.endNode = true from h) (by rw [not_endNode_of he ha]; decide)).trans ?_
  show offerEnd s.outwardEnd _ _ _ = _
  rw [hout]
  rfl

/-- A lead that has entered LEADING, with surveys and cycles due and its first cycle numbered. -/
def leadingBegun (s : State) : State :=
  { s with
    lead := { s.lead with state := .leading, reason := .none, window := none, attempt := 1, round := 1 }
    consist := { s.consist with state := .placed, placing := none }
    survey := { s.survey with period := s.start (s.itemN Item.surveyPeriod), misses := 0 }
    seq := { s.seq with
      number := s.seq.number + 1, reflected := none, periodTimer := s.start (1000 * s.seq.period) }
    events := (raise .placed s).events
    scratch := { s.scratch with
      statusDue := s.scratch.statusDue || .leading != s.lead.state || .none != s.lead.reason } }

/-- Its first level is sent in the same event. -/
theorem enterLeading_eq (s : State) : enterLeading s =
    sendLevels 4 ⟨1, s.seq.budget, s.seq.demand⟩ (wordItem s.seq.budget) (leadingBegun s) := rfl

theorem enterLeading_neighbour {e : End} {s : State} (he : s.consist.leadEnd = some e.other) (ha : s.alive e = true) :
    ∃ r g f, enterLeading s = offer (.line e) f defaultRate { leadingBegun s with
      heat := { s.heat with cycleRec := r, grant := g }
      seq := { (leadingBegun s).seq with
        cycle := some ⟨1, s.seq.budget, s.seq.demand⟩, passTimer := s.start (s.itemN Item.passTimeout) } } := by
  rw [enterLeading_eq]
  exact sendLevels_neighbour (s := leadingBegun s) 3 _ _ he (by cases e <;> exact ha)

theorem offer_present {p : Port} {f : Frame} {r : LineRate} {s : State} {ev : Event} (h : s.present ev = true) :
    (offer p f r s).present ev = true := by
  rcases offerQueued_cases p ⟨f, r, false⟩ s with ⟨-, h'⟩ | ⟨-, h'⟩ <;> rw [offer, h']
  · rw [State.present, setPort_events]; exact h
  · rw [present_raise_iff, State.present, setPort_events]
    simp [show s.events.getLsbD (eventBit ev) = true from h]

/-- The event in which the lead enters LEADING, from a state `u` that has the units of `s`. -/
theorem finish_enterLeading {e : End} {s u : State} (hr : s.atRest) (hk : KeepsUnits s u)
    (he : u.consist.leadEnd = some e.other) (ha : u.alive e = true) :
    ∃ t, finish (enterLeading (u.withScratch ⟨s.teff, false, none⟩)) = t ∧
      t.lead = { u.lead with state := .leading, reason := .none, window := none, attempt := 1, round := 1 } ∧
      t.consist = { u.consist with state := .placed, placing := none } ∧ t.present .placed = true ∧
      t.survey = { u.survey with period := some (u.now + u.itemN Item.surveyPeriod), misses := 0 } ∧
      t.seq = { u.seq with
        number := u.seq.number + 1, reflected := none, cycle := some ⟨1, u.seq.budget, u.seq.demand⟩
        periodTimer := some (u.now + 1000 * u.seq.period), passTimer := some (u.now + u.itemN Item.passTimeout) } ∧
      t.doors = u.doors ∧ t.items = u.items := by
  obtain ⟨hd, hh, hi, hm, -⟩ := hk
  obtain ⟨r, g, f, hv⟩ := enterLeading_neighbour (e := e) (s := u.withScratch ⟨s.teff, false, none⟩) he
    (by cases e <;> exact ha)
  set x : State := { leadingBegun (u.withScratch ⟨s.teff, false, none⟩) with
    heat := { u.heat with cycleRec := r, grant := g }
    seq := { (leadingBegun (u.withScratch ⟨s.teff, false, none⟩)).seq with
      cycle := some ⟨1, u.seq.budget, u.seq.demand⟩, passTimer := some (u.now + u.itemN Item.passTimeout) } } with hx
  have hv' : enterLeading (u.withScratch ⟨s.teff, false, none⟩) = offer (.line e) f defaultRate x := hv
  have hp : (offer (.line e) f defaultRate x).present .placed = true :=
    offer_present (show (raise .placed u).present .placed = true from present_raise _ _)
  have hrest := offerQueued_rest (.line e) ⟨f, defaultRate, false⟩ x
  rw [hv']
  rw [show offerQueued (.line e) ⟨f, defaultRate, false⟩ x = offer (.line e) f defaultRate x from rfl] at hrest
  generalize offer (.line e) f defaultRate x = v at *
  have hdoors : v.doors = s.doors := (congrArg State.doors hrest).trans hd
  have hheat : v.heat = { s.heat with cycleRec := r, grant := g } := by rw [← hh]; exact (congrArg State.heat hrest :)
  have hitems : v.items = u.items := (congrArg State.items hrest :)
  have hinputs : v.inputs = s.inputs := (congrArg State.inputs hrest).trans hi
  have hm' : v.scratch.missed = none := (congrArg (·.scratch.missed) hrest :)
  have hend : finish v = (flushStatus v).withScratch Scratch.rest :=
    finish_kept hr hdoors (teff_congr_record hdoors (by rw [hheat]) hinputs (hitems.trans hm)) (by rw [hheat])
      (by rw [hheat]) (congrArg (·.scratch.teff) hrest :)
  have ht := flushed_eq Scratch.rest hm'
  refine ⟨_, hend, ?_⟩
  have htp : ((flushStatus v).withScratch Scratch.rest).present .placed = true := flushStatus_present hm' hp
  generalize (flushStatus v).withScratch Scratch.rest = t at *
  exact ⟨(congrArg State.lead ht).trans (congrArg State.lead hrest :),
    (congrArg State.consist ht).trans (congrArg State.consist hrest :), htp,
    (congrArg State.survey ht).trans (congrArg State.survey hrest :),
    (congrArg State.seq ht).trans (congrArg State.seq hrest :),
    (congrArg State.doors ht).trans (hdoors.trans hd.symm), (congrArg State.items ht).trans hitems⟩

/-- The tests of a reflected CONFIRM, one by one (R55). -/
theorem confirmGood_iff {hop : Nat} {d : ConfirmData} {s : State} : confirmGood hop d s = true ↔
    hop = s.consist.length ∧ d.length.toNat = s.consist.length ∧ d.check = s.consist.check ∧ d.mismatch = 0 := by
  simp only [confirmGood, Bool.and_eq_true, beq_iff_eq]
  tauto

/-- Settles O28: the clean CONFIRM, the round that fails by a CONFIRM, and the one that fails by the window. -/
theorem confirmedLeadLeads : Obligations.ConfirmedLeadLeads := by
  refine ⟨?_, ?_, ?_⟩
  · intro e f s h ha hpl h1 hrole hst he hacc hl hhop hlen hcheck hmis
    have hexec := exec_consumed (i := .reflectedConfirm (.line e) f) rfl h hpl h1 hrole he hacc hl
    have hk := heard_keepsUnits (.line e) s
    have hu := heard_consist_of_alive ha
    have hulead := heard_lead (.line e) s
    have hunow := heard_now (.line e) s
    have huseq := heard_seq (.line e) s
    have hualive := heard_alive_self e s
    generalize heard (.line e) s = u at *
    have hgood : confirmGood (frameOf f .confirm []).hop (ConfirmData.ofPayload f.body)
        (u.withScratch ⟨s.teff, false, none⟩) = true :=
      confirmGood_iff.2 (by rw [withScratch_consist, hu]; exact ⟨hhop, hlen, hcheck, hmis⟩)
    have hleads := takeReflectedConfirm_leads (by rw [withScratch_lead, hulead, hst]) hgood
    obtain ⟨t, hend, hlead, hcon, hp, hsurvey, hseq, hdoors, hitems⟩ := finish_enterLeading (e := e) (s := s)
      (u := { u with lead := { u.lead with window := none } }) h.atRest hk (by rw [← he, ← hu])
      (by cases e <;> exact hualive)
    have hleads' : consumeLeadward (frameOf f .confirm []) (s.rateAt (.line e)) (u.withScratch ⟨s.teff, false, none⟩) =
        enterLeading ({ u with lead := { u.lead with window := none } }.withScratch ⟨s.teff, false, none⟩) := hleads
    rw [hleads', hend] at hexec
    refine ⟨t, hexec, ?_⟩
    rw [hlead, hcon, hsurvey, hseq]
    dsimp only
    rw [hu, hunow, huseq, hulead]
    refine ⟨rfl, hrole, rfl, rfl, rfl, rfl, hp, rfl, rfl, rfl, rfl, ?_, rfl, rfl, rfl, hdoors.trans hk.doors,
      hitems.trans hk.items⟩
    exact congrArg (fun n => some (s.now + n)) (hk.itemN _)
  · intro e f s ⟨h, hacc, hpl, h1, hrole, he⟩ ha hst hl hbad hcab
    have hexec := exec_consumed (i := .reflectedConfirm (.line e) f) rfl h hpl h1 hrole he hacc hl
    have hk := heard_keepsUnits (.line e) s
    have hu := heard_consist_of_alive ha
    have hulead := heard_lead (.line e) s
    have hunow := heard_now (.line e) s
    have hucab := (heard_roomFor (.line e) .cab s 1).2 hcab
    have huqueue := heard_queue (.line e) s (.line e)
    have huat := hk.atRest h.atRest
    have hualive := heard_alive_self e s
    generalize heard (.line e) s = u at *
    have hfail := takeReflectedConfirm_failsRound (hop := (frameOf f .confirm []).hop)
      (d := ConfirmData.ofPayload f.body) (s := u.withScratch ⟨s.teff, false, none⟩) (by rw [withScratch_lead, hulead, hst])
      (Bool.eq_false_iff.2 fun hgood => hbad (by rw [← hu]; exact confirmGood_iff.1 hgood))
    have hround : consumeLeadward (frameOf f .confirm []) (s.rateAt (.line e)) (u.withScratch ⟨s.teff, false, none⟩) =
        roundFailed ((windowStopped s.now u).withScratch ⟨u.teff, false, none⟩) := by
      rw [hk.teff, ← hunow]; exact hfail
    rw [hround] at hexec
    refine ⟨fun hlt hroom => ?_, fun hge => ⟨_, hexec, ?_⟩⟩
    · obtain ⟨t, hend, hsent, htlead, htcon⟩ := roundSent_roundFailed (e := e) (clock := s.now) huat (by rw [hu, he])
        hualive (by rw [hulead]; exact hlt) (by rw [huqueue, hu]; exact hroom) hucab
      rw [hend] at hexec
      rw [hulead] at htlead
      refine ⟨t, hexec, hsent, ?_, by rw [← hu]; exact htcon⟩
      exact htlead.trans (by rw [← hst])
    · exact failsPlacing_roundFailed huat (by rw [hulead, hst]; decide) (by rw [hu, hpl])
        (by rw [hulead]; exact hge) hucab
  · intro e s d hlow hr hd hst hpl _ he ha hcab
    have hexec := exec_windowExpiry_round hlow hd hst
    refine ⟨fun hlt hroom => ?_, fun hge => ⟨_, hexec, ?_⟩⟩
    · obtain ⟨t, hend, hsent, hlead, hcon⟩ := roundSent_roundFailed (clock := max s.now d) hr he ha hlt hroom hcab
      exact ⟨t, hexec.trans (congrArg Host.Outcome.next hend), hsent, hlead, hcon⟩
    · exact failsPlacing_roundFailed hr (by rcases hst with h | h <;> rw [h] <;> decide) hpl hge hcab

end Sys2Proof.Machine
end

section
/-! The filtered levels are written by their own filters alone: what the roll call, the lead machine and the end of an
event do to the other units leaves every input as it is (R172). -/

namespace Sys2Proof.Machine

section inputs

variable (s : State)

/-! ### Ports and the end of an event -/

@[simp] theorem offer_inputs (p : Port) (f : Frame) (r : LineRate) : (offer p f r s).inputs = s.inputs :=
  (congrArg State.inputs (offerQueued_rest p ⟨f, r, false⟩ s) :)

@[simp] theorem offerEnd_inputs (e : Option End) (f : Frame) (r : LineRate) : (offerEnd e f r s).inputs = s.inputs := by
  cases e
  · rfl
  · exact offer_inputs s _ f r

theorem originate_inputs (k : Kind) (l : List Byte) : (originate k l s).inputs = s.inputs := by
  unfold originate; split
  · rfl
  · exact offerEnd_inputs s _ _ _

theorem flushStatus_inputs : (flushStatus s).inputs = s.inputs := by
  unfold flushStatus; split
  · rw [offer_inputs]
    cases h : s.scratch.missed with
    | none => rw [flushMiss_none h]
    | some u => rw [flushMiss_some h, offer_inputs]
  · rfl

theorem finish_inputs : (finish s).inputs = s.inputs := by
  show (flushStatus (settleHeat (settleTone s))).inputs = s.inputs
  rw [flushStatus_inputs, settleHeat_eq, settleTone_eq]

/-! ### The roll call (R47, R56) -/

theorem completeCycle_inputs (c : Cycle) (f : Reflected) : (completeCycle c f s).inputs = s.inputs := by
  show (takeHeatSet _ (originate .heatSet _ s)).inputs = s.inputs
  rw [takeHeatSet_eq]
  exact originate_inputs s _ _

theorem sendLevels_inputs (fuel : Nat) (c : Cycle) (w : Word) : (sendLevels fuel c w s).inputs = s.inputs := by
  induction fuel generalizing c w s with
  | zero => rfl
  | succ fuel ih =>
    obtain ⟨r, g, hcp⟩ := computePass_eq ⟨s.seq.number, byteOf c.level, w, 0, 0, byteOf c.demand⟩ s
    unfold sendLevels
    generalize computePass ⟨s.seq.number, byteOf c.level, w, 0, 0, byteOf c.demand⟩ s = p at hcp ⊢
    obtain ⟨d, t⟩ := p
    dsimp only at hcp
    subst hcp
    dsimp only
    split
    · split
      · exact completeCycle_inputs _ _ _
      · exact ih _ _ _
    · exact offerEnd_inputs _ _ _ _

theorem enterLeading_inputs : (enterLeading s).inputs = s.inputs := by
  rw [enterLeading_eq, sendLevels_inputs]; rfl

theorem enterCalling_inputs (e : End) : (enterCalling e s).inputs = s.inputs := by
  unfold enterCalling
  dsimp only
  split
  · exact offerEnd_inputs _ _ _ _
  · exact enterLeading_inputs _

theorem returnToUnplaced_inputs : (returnToUnplaced s).inputs = s.inputs := by rw [returnToUnplaced_eq]

theorem startRollCall_inputs : (startRollCall s).inputs = s.inputs := by
  rw [startRollCall_eq]
  split
  · exact returnToUnplaced_inputs _
  all_goals exact enterCalling_inputs _ _

theorem keyActive_inputs : (keyActive s).inputs = s.inputs := by
  unfold keyActive
  split
  · obtain ⟨l, q, hq⟩ := roleHeld_eq s
    rw [show leadRollCall s = startRollCall (roleHeld s) from rfl, startRollCall_inputs, hq]
  · rfl

theorem keyInactive_inputs : (keyInactive s).inputs = s.inputs := by
  by_cases h : s.lead.role = true
  · rw [keyInactive_eq h]; rfl
  · rw [keyInactive, if_neg h]

/-! ### What a filtered level is handed to (R172, R173) -/

theorem compareEnd_inputs (e : End) : (compareEnd e s).inputs = s.inputs := by
  rcases compareEnd_cases e s with h | ⟨c, evs, h⟩ <;> rw [h]
  cases e <;> rfl

theorem inputChanged_inputs (i : Input) (level : Bool) : (inputChanged i level s).inputs = s.inputs := by
  unfold inputChanged
  cases i with
  | cpl e => exact compareEnd_inputs _ e
  | key => cases level <;> [exact keyInactive_inputs s; exact keyActive_inputs s]
  | zsp => cases level <;> [exact (onlyDoors_zspLost s).inputs; rfl]
  | iso c => cases level <;> [exact (onlyDoors_isolateOff c s).inputs; exact (onlyDoors_isolateOn c s).inputs]
  | leaf c n => cases level <;> [exact (onlyDoors_leafOpens c n s).inputs; exact (onlyDoors_leafCloses c n s).inputs]
  | th => rfl

theorem inputSettled_inputs (i : Input) (level : Bool) : (inputSettled i level s).inputs = s.inputs := by
  unfold inputSettled
  cases i with
  | cpl e => exact compareEnd_inputs s e
  | key => cases level <;> [rfl; exact keyActive_inputs s]
  | iso c => exact (onlyDoors_tryEndHold c s).inputs
  | leaf c n => exact (onlyDoors_leafSettled c n s level).inputs
  | zsp => rfl
  | th => rfl

end inputs

/-- A stability timer's expiry gives its input the raw level, and changes no other input (R172). -/
theorem exec_stability_inputs {i : Input} {s : State} {d : Nat} (hlow : s.supplyLow = false)
    (hd : (s.input i).timer = some d) :
    ∃ t, exec (.stabilityTimerExpiry i) s = .next t ∧ t.inputs = (inputFiltered i s).inputs := by
  refine ⟨_, exec_stability hlow hd, ?_⟩
  rw [finish_inputs]
  split
  · exact inputSettled_inputs _ i _
  · split
    · rfl
    · exact inputChanged_inputs _ i _

end Sys2Proof.Machine
end

section
/-! A door channel that an input moves: the transitions of standstill, leaves, isolation and the settling hold, each said
by the channel it gives (R108, R116, R119 to R122). -/

namespace Sys2Proof.Machine

/-! ### A channel takes a new value (R123) -/

/-- The state with channel `c` moved to `ch`; a FAULT so entered, outside the hold, is reported. -/
def channelMoves (c : Side) (ch : Channel) (s : State) : State :=
  raiseIf (decide (ch ≠ s.channel c) && ch.state == .fault && !ch.hold) (doorFaultEvent c) (s.setChannel c ch)

section moves

variable (c : Side) (s : State)

@[simp] theorem channel_raiseIf (b : Bool) (ev : Event) (d : Side) : (raiseIf b ev s).channel d = s.channel d := by
  cases b
  · rfl
  · exact channel_raise ev s d

theorem onlyDoors_channelMoves (ch : Channel) : OnlyDoors s (channelMoves c ch s) :=
  (onlyDoors_setChannel s c ch).trans (onlyDoors_raiseIf _ _ _)

theorem channelMoves_self : channelMoves c (s.channel c) s = s := by
  rw [channelMoves, setChannel_self]; simp [raiseIf]

/-- A value that is no FAULT is taken without an event. -/
theorem channelMoves_of_ne {ch : Channel} (h : ch.state ≠ .fault) : channelMoves c ch s = s.setChannel c ch := by
  have hb : (ch.state == DoorState.fault) = false := beq_false_of_ne h
  rw [channelMoves, hb]; simp [raiseIf]

theorem enterLocked_moves : enterLocked c s = channelMoves c (s.channel c).inLocked s :=
  (channelMoves_of_ne c s (ch := (s.channel c).inLocked) (by simp [Channel.inLocked])).symm

theorem enterIsolated_moves : enterIsolated c s = channelMoves c (s.channel c).inIsolated s :=
  (channelMoves_of_ne c s (ch := (s.channel c).inIsolated) (by simp [Channel.inIsolated])).symm

/-- A FAULT entered from another state, or out of the settling hold. -/
theorem enterFault_moves (cause : FaultCause) (h : (s.channel c).state ≠ .fault ∨ (s.channel c).hold = true) :
    enterFault c cause s = channelMoves c ((s.channel c).inFault cause) s := by
  have hne : (s.channel c).inFault cause ≠ s.channel c := by
    intro he
    rcases h with h | h
    · exact h (congrArg Channel.state he).symm
    · exact Bool.false_ne_true ((congrArg Channel.hold he).trans h)
  have hb : (decide ((s.channel c).inFault cause ≠ s.channel c) && ((s.channel c).inFault cause).state == .fault &&
      !((s.channel c).inFault cause).hold) = true := by
    rw [decide_eq_true hne]; rfl
  rw [channelMoves, hb]; rfl

/-! ### Leaves, isolation and the settling hold -/

theorem leafOpens_moves (n : Fin 4) : leafOpens c n s = channelMoves c
    (if n.val < s.leafCount c ∧ (s.channel c).state = .locked then (s.channel c).inFault .leafOpened
      else s.channel c) s := by
  unfold leafOpens
  split
  · next h => exact enterFault_moves c s _ (.inl (by rw [h.2]; decide))
  · exact (channelMoves_self c s).symm

theorem leafCloses_moves (n : Fin 4) : leafCloses c n s = channelMoves c
    (if n.val < s.leafCount c ∧ (s.channel c).state = .closing ∧ s.allClosed c then (s.channel c).inLocked
      else s.channel c) s := by
  unfold leafCloses
  split
  · exact enterLocked_moves c s
  · exact (channelMoves_self c s).symm

theorem isolateOff_moves : isolateOff c s = channelMoves c
    (if (s.channel c).state = .isolated ∧ s.leafCount c ≠ 0 then returnedChannel c s else s.channel c) s := by
  unfold isolateOff leaveIsolated returnedChannel
  split
  · next h =>
    split
    · exact enterLocked_moves c s
    · exact enterFault_moves c s _ (.inl (by rw [h.1]; decide))
  · exact (channelMoves_self c s).symm

theorem clearCause_moves {ch : Channel} (h : ch.state ≠ .fault) :
    clearCause c (channelMoves c ch s) = channelMoves c { ch with cause := .none } s := by
  rw [channelMoves_of_ne c s h, channelMoves_of_ne c s (ch := { ch with cause := .none }) h]
  cases c <;> rfl

theorem tryEndHold_moves : tryEndHold c s = channelMoves c
    (if (s.channel c).hold = true ∧ s.channelSettled c = true then heldChannel c s else s.channel c) s := by
  unfold tryEndHold heldChannel
  split
  · next h =>
    split
    · rw [enterIsolated_moves, clearCause_moves c s (by simp [Channel.inIsolated])]
    · split
      · rw [enterLocked_moves, clearCause_moves c s (by simp [Channel.inLocked])]
      · exact enterFault_moves c s _ (.inr h.1)
  · exact (channelMoves_self c s).symm

end moves

/-! ### Standstill lost (R119) -/

/-- A RELEASED channel enters WARNING; any other is left as it is. -/
def warnsReleased (c : Side) (s : State) : State := if (s.channel c).state = .released then enterWarning c s else s

/-- The channel as standstill lost at the moment and with the items of `s` leaves it. -/
def warnedChannel (c : Side) (s : State) : Channel :=
  if (s.channel c).state = .released then
    { s.channel c with state := .warning, timer := some (s.now + s.itemN Item.warnTime) }
  else s.channel c

section warns

variable (c : Side) (s : State)

theorem warnsReleased_eq : warnsReleased c s = s.setChannel c (warnedChannel c s) := by
  unfold warnsReleased warnedChannel
  split
  · rfl
  · exact (setChannel_self c s).symm

theorem zspLost_channel : (zspLost s).channel c = warnedChannel c s := by
  show (raiseIf _ _ (warnsReleased .b (warnsReleased .a s))).channel c = _
  rw [channel_raiseIf, warnsReleased_eq .b, warnsReleased_eq .a]
  cases c <;> rfl

end warns

theorem zspLost_present {s : State} (h : ∃ c, (s.channel c).state = .released) :
    (zspLost s).present .autoClose = true := by
  have hany : (s.doors.a.state == .released || s.doors.b.state == .released) = true := by
    obtain ⟨_ | _, h⟩ := h
    · simp [show s.doors.a.state = .released from h]
    · simp [show s.doors.b.state = .released from h]
  unfold zspLost
  dsimp only
  rw [hany]
  exact present_raise _ _

end Sys2Proof.Machine
end

section
/-! The statement about the inputs: raw edges, and what a filtered level does to the unit that reads it (R172, R173). -/

namespace Sys2Proof.Machine

/-! ### What is read of an input's side once the input is filtered -/

section filtered

variable (i : Input) (d : Nat) (s : State)

@[simp] theorem channel_filteredAt (c : Side) : (filteredAt i d s).channel c = s.channel c := by cases c <;> rfl
@[simp] theorem leafCount_filteredAt (c : Side) : (filteredAt i d s).leafCount c = s.leafCount c := rfl

theorem active_filteredAt : (filteredAt i d s).active i = (s.input i).raw := by
  unfold State.active
  rw [input_filteredAt]
  cases (s.input i).raw <;> rfl

theorem active_filteredAt_ne {j : Input} (h : j ≠ i) : (filteredAt i d s).active j = s.active j := by
  unfold State.active
  rw [input_filteredAt_ne i d s h]

end filtered

theorem mem_leaves {c : Side} {s : State} {m : Fin 4} : m ∈ s.leaves c ↔ m.val < s.leafCount c := by
  have hm : m ∈ ([0, 1, 2, 3] : List (Fin 4)) := by revert m; decide
  simp only [State.leaves, List.mem_filter, hm, true_and, decide_eq_true_eq]

theorem allClosed_iff {c : Side} {s : State} :
    s.allClosed c = true ↔ ∀ m : Fin 4, m.val < s.leafCount c → s.active (.leaf c m) = true := by
  rw [State.allClosed, List.all_eq_true]
  exact forall_congr' fun m => by rw [mem_leaves]

theorem channelSettled_iff {c : Side} {s : State} : s.channelSettled c = true ↔
    s.settled (.iso c) = true ∧ ∀ m : Fin 4, m.val < s.leafCount c → s.settled (.leaf c m) = true := by
  rw [State.channelSettled, Bool.and_eq_true, List.all_eq_true]
  exact and_congr_right fun _ => forall_congr' fun m => by rw [mem_leaves]

/-! ### The end of an event that has moved a channel (R124, R146) -/

section finish

variable {i : Input} {d : Nat} {s x : State}

theorem finish_onlyDoors (hx : OnlyDoors (filteredAt i d s) x) :
    (∀ c, (finish x).channel c = x.channel c) ∧ (finish x).consist = s.consist ∧ (finish x).lead = s.lead ∧
      (finish x).heat.target = s.heat.target ∧ (finish x).events = x.events ∧
      (∀ p, (finish x).port p = s.port p) ∧ (finish x).supplyLow = s.supplyLow := by
  have hd : x.scratch.statusDue = false := by rw [hx.scratch]; rfl
  have hf := finish_owesNothing hd
  refine ⟨finish_channel hd, ?_, ?_, ?_, ?_, fun p => ?_, ?_⟩
  · exact (congrArg State.consist hf).trans hx.consist
  · exact (congrArg State.lead hf).trans hx.lead
  · exact (congrArg (·.heat.target) hf).trans (congrArg Heat.target hx.heat)
  · exact (congrArg State.events hf :)
  · rw [finish_port hd, hx.port, port_filteredAt]
  · exact (congrArg State.supplyLow hf).trans (congrArg State.supplyLow hx :)

theorem channelBecomes_finish (c : Side) (ch : Channel) :
    ChannelBecomes c ch s (finish (channelMoves c ch (filteredAt i d s))) := by
  obtain ⟨hch, hcon, hlead, htarget, hev, -⟩ := finish_onlyDoors (onlyDoors_channelMoves c (filteredAt i d s) ch)
  refine ⟨?_, fun c' hc' => ?_, fun ev => ?_, hcon, hlead, htarget⟩
  · rw [hch, channelMoves, channel_raiseIf, channel_setChannel]
  · rw [hch, channelMoves, channel_raiseIf, channel_setChannel_ne _ _ hc', channel_filteredAt]
  · rw [State.present, hev]
    refine (present_raiseIf _ _ _ _).trans ?_
    rw [channel_filteredAt, State.present, setChannel_events]
    congr 1
    rw [Bool.and_comm, ← Bool.and_assoc, ← Bool.and_assoc]

/-- An event whose handling is such a move. -/
theorem exec_channelBecomes {x : State} {c : Side} {ch ch' : Channel}
    (hexec : exec (.stabilityTimerExpiry i) s = .next (finish x)) (hx : x = channelMoves c ch (filteredAt i d s))
    (hch : ch = ch') : ∃ t, exec (.stabilityTimerExpiry i) s = .next t ∧ ChannelBecomes c ch' s t := by
  subst hx hch
  exact ⟨_, hexec, channelBecomes_finish c ch⟩

end finish

/-! ### Leaves and isolation (R116, R120 to R122) -/

section door

variable {c : Side} {n : Fin 4} {s : State} {d : Nat}

/-- A leaf that changes, and one that settles outside the settling hold, opens or closes by its level (log 24). -/
theorem exec_leaf {b : Bool} (hlow : s.supplyLow = false) (hd : (s.input (.leaf c n)).timer = some d)
    (hraw : (s.input (.leaf c n)).raw = b)
    (hl : (s.input (.leaf c n)).level = some (!b) ∨ (s.input (.leaf c n)).level = none ∧ (s.channel c).hold = false) :
    exec (.stabilityTimerExpiry (.leaf c n)) s = .next (finish
      (if b then leafCloses c n (filteredAt (.leaf c n) d s) else leafOpens c n (filteredAt (.leaf c n) d s))) := by
  rcases hl with hl | ⟨hl, hhold⟩
  · rw [exec_changed hlow hd hl (by rw [hraw]; cases b <;> decide), hraw]
    rfl
  · rw [exec_settled hlow hd hl, hraw]
    exact congrArg (fun x => Host.Outcome.next (finish x)) (if_neg (by rw [channel_filteredAt, hhold]; decide))

theorem allClosed_filteredLeaf (hraw : (s.input (.leaf c n)).raw = true) :
    (filteredAt (.leaf c n) d s).allClosed c = true ↔
      ∀ m : Fin 4, m ≠ n → m.val < s.leafCount c → s.active (.leaf c m) = true := by
  have hne {m : Fin 4} (h : m ≠ n) : Input.leaf c m ≠ .leaf c n := fun he => h (Input.leaf.inj he).2
  rw [allClosed_iff]
  refine forall_congr' fun m => ?_
  by_cases h : m = n
  · subst h
    simp [active_filteredAt, hraw]
  · rw [active_filteredAt_ne _ _ _ (hne h), leafCount_filteredAt]
    exact ⟨fun hm _ => hm, fun hm => hm h⟩

/-- The isolate input plays no part in the leaves. -/
theorem allClosed_filteredIso (c' : Side) : (filteredAt (.iso c) d s).allClosed c' = s.allClosed c' := by
  rw [Bool.eq_iff_iff, allClosed_iff, allClosed_iff]
  exact forall_congr' fun m => by rw [active_filteredAt_ne _ _ _ (by simp), leafCount_filteredAt]

theorem returnedChannel_filteredIso (c' : Side) :
    returnedChannel c' (filteredAt (.iso c) d s) = returnedChannel c' s := by
  rw [returnedChannel, returnedChannel, allClosed_filteredIso, channel_filteredAt]

/-- In the settling hold an input of the channel that settles may end it (R108). -/
theorem exec_hold {i : Input} (hlow : s.supplyLow = false) (hi : i = .iso c ∨ ∃ n, i = .leaf c n)
    (hd : (s.input i).timer = some d) (hl : (s.input i).level = none) (hhold : (s.channel c).hold = true) :
    exec (.stabilityTimerExpiry i) s = .next (finish (tryEndHold c (filteredAt i d s))) := by
  rw [exec_settled hlow hd hl]
  rcases hi with rfl | ⟨n, rfl⟩
  · rfl
  · exact congrArg (fun x => Host.Outcome.next (finish x)) (if_pos (by rw [channel_filteredAt, hhold]))

end door

/-! ### Inputs that move nothing of the doors (R75, R172, R173) -/

section quiet

variable {i : Input} {s : State} {d : Nat}

/-- An event that has filtered an input and handed it to nobody changes nothing else, where TH keeps its level. -/
theorem finish_filteredUnmoved (hr : s.atRest) (hth : i = .th → (s.input i).level = some (s.input i).raw) :
    finish (filteredAt i d s) = (inputFiltered i s).reach d := by
  have hlevel : ((filteredAt i d s).input .th).level = (s.input .th).level := by
    by_cases h : i = .th
    · subst h
      rw [input_filteredAt, hth rfl]
    · rw [input_filteredAt_ne _ _ _ (Ne.symm h)]
  exact finish_unmoved (t := (inputFiltered i s).reach d) hr rfl (teff_congr_th rfl rfl hlevel rfl) rfl rfl rfl

/-- A coupling sense is compared, and the event changes no other unit (R74, R75). -/
theorem finish_compareEnd {e : End} {x : State} (hr : s.atRest) (hx : OnlyDoors ((inputFiltered (.cpl e) s).reach d) x)
    (hd : x.doors = s.doors) :
    finish (compareEnd e (x.withScratch ⟨s.teff, false, none⟩)) = compareEnd e x ∧
      (compareEnd e x).consist.state = s.consist.state ∧ (compareEnd e x).doors = s.doors ∧
      (compareEnd e x).heat = s.heat ∧ ∀ p, (compareEnd e x).port p = s.port p := by
  have hxs : x.scratch = s.scratch := hx.scratch
  have hall : (compareEnd e x).doors = x.doors ∧ (compareEnd e x).heat = x.heat ∧ (compareEnd e x).items = x.items ∧
      (compareEnd e x).scratch = x.scratch ∧ (compareEnd e x).consist.state = x.consist.state ∧
      ∀ p, (compareEnd e x).port p = x.port p := by
    rcases compareEnd_cases e x with h | ⟨c, evs, h⟩ <;> rw [h]
    · exact ⟨rfl, rfl, rfl, rfl, rfl, fun _ => rfl⟩
    · refine ⟨?_, ?_, ?_, ?_, ?_, fun p => ?_⟩
      case refine_6 => cases e <;> rcases p with (_ | _) | _ <;> rfl
      all_goals cases e <;> rfl
  obtain ⟨hdoors, hheat, hitems, hscratch, hstate, hport⟩ := hall
  have hin : (compareEnd e x).inputs = (inputFiltered (.cpl e) s).inputs := (compareEnd_inputs x e).trans hx.inputs
  have hlevel : ((compareEnd e x).input .th).level = (s.input .th).level := by
    rw [State.input, hin]; exact congrArg InputLine.level (input_setInput_ne s _ (by simp))
  have hheat' := hheat.trans hx.heat
  have hteff : (compareEnd e x).teff = s.teff := teff_congr_th (hdoors.trans hd) hheat' hlevel (hitems.trans hx.items)
  refine ⟨?_, hstate.trans (congrArg Consist.state hx.consist), hdoors.trans hd, hheat', fun p => ?_⟩
  · rw [compareEnd_withScratch]
    exact finish_unmoved hr (hdoors.trans hd) hteff (congrArg Heat.level hheat') (congrArg Heat.raise hheat')
      (hscratch.trans hxs)
  · rw [hport, hx.port]; rcases p with (_ | _) | _ <;> rfl

/-- The KEY that becomes active, its first settling included (R45, R173). -/
theorem exec_keyActive (hlow : s.supplyLow = false) (hd : (s.input .key).timer = some d)
    (hl : (s.input .key).level ≠ some true) (hraw : (s.input .key).raw = true) :
    exec (.stabilityTimerExpiry .key) s = .next (finish (keyActive (filteredAt .key d s))) := by
  cases hlevel : (s.input .key).level with
  | none => rw [exec_settled hlow hd hlevel, hraw]; rfl
  | some f =>
    have hf : f = false := by cases f <;> simp_all
    rw [exec_changed hlow hd hlevel (by rw [hf, hraw]; decide), hraw]; rfl

/-- TH is handed to no unit (R144). -/
theorem exec_th (hlow : s.supplyLow = false) (hd : (s.input .th).timer = some d) :
    exec (.stabilityTimerExpiry .th) s = .next (finish (filteredAt .th d s)) := by
  rw [exec_stability hlow hd]
  cases (s.input .th).level with
  | none => rfl
  | some f => exact congrArg (fun x => Host.Outcome.next (finish x)) (ite_self _)

end quiet

/-- Settles O47, clause by clause in the order of the statement. -/
theorem inputsAreFiltered : Obligations.InputsAreFiltered := by
  refine ⟨?_, ?_, ?_, ?_, ?_, ?_, ?_, ?_, ?_, ?_, ?_, ?_⟩
  · intro i a s hlow
    show Host.Outcome.next (rawEdgeAt i a s) = _
    simp only [rawEdgeAt, hlow]
    rfl
  · intro i s d hlow hr hd
    obtain ⟨t, hexec, hin⟩ := exec_stability_inputs hlow hd
    refine ⟨⟨t, hexec, ?_⟩, fun hl => ?_⟩
    · rw [State.input, hin]; exact input_setInput s i _
    · rw [exec_unchanged hlow hd hl, finish_filteredUnmoved hr fun _ => hl, inputFiltered, ← hl]
      rfl
  · intro e s d b hlow hr hd hl hraw
    have hexec := exec_changed hlow hd hl (by rw [hraw]; cases b <;> decide)
    rw [hraw] at hexec
    obtain ⟨hend, hstate, hdoors, hheat, hport⟩ := finish_compareEnd (e := e) (d := d)
      (x := raise (cplChange e) ((inputFiltered (.cpl e) s).reach d)) hr (onlyDoors_raise _ _) rfl
    refine ⟨_, hexec.trans (congrArg Host.Outcome.next hend), ?_, hstate, hdoors, hheat, hport⟩
    rw [compareEnd_present _ _ (by cases e <;> decide) (by cases e <;> decide)]
    exact present_raise _ _
  · intro s d hlow _ hd hl hraw
    have hexec := exec_changed hlow hd hl (by rw [hraw]; decide)
    rw [hraw] at hexec
    obtain ⟨hch, hcon, -, -, hev, hport, -⟩ := finish_onlyDoors (onlyDoors_zspLost (filteredAt .zsp d s))
    refine ⟨_, hexec, fun c => ?_, fun ⟨c, hc⟩ => ?_, hcon, hport⟩
    · refine (hch c).trans ((zspLost_channel c _).trans ?_)
      rw [warnedChannel, channel_filteredAt]
      rfl
    · exact (congrArg (BitVec.getLsbD · _) hev).trans (zspLost_present ⟨c, by rw [channel_filteredAt, hc]⟩)
  · intro c s d hlow _ hd hl hraw hhold
    have hexec := exec_changed hlow hd hl (by rw [hraw]; decide)
    rw [hraw, show inputChanged (.iso c) true (filteredAt (.iso c) d s) = isolateOn c (filteredAt (.iso c) d s)
      from rfl] at hexec
    obtain ⟨hch, hcon, -, -, hev, hport, hsup⟩ := finish_onlyDoors (onlyDoors_isolateOn c (filteredAt (.iso c) d s))
    have hon : isolateOn c (filteredAt (.iso c) d s) =
        (filteredAt (.iso c) d s).setChannel c (s.channel c).inIsolated := by
      rw [← channel_filteredAt (.iso c) d s c] at hhold ⊢
      exact if_neg (by rw [hhold]; decide)
    have hc : (finish (isolateOn c (filteredAt (.iso c) d s))).channel c = (s.channel c).inIsolated := by
      rw [hch, hon, channel_setChannel]
    refine ⟨_, hexec, hc, fun c' hc' => ?_, ?_, ?_, ?_, hcon, hport⟩
    · refine (hch c').trans ?_
      rw [hon, channel_setChannel_ne _ _ hc', channel_filteredAt]
    · simp [State.output, hsup, hlow, hc, Channel.inIsolated]
    · simp [State.output, hsup, hlow, hc, Channel.inIsolated]
    · refine hev.trans ?_
      rw [hon, setChannel_events]; rfl
  · intro c s d hlow _ hd hl hraw
    have hexec := exec_changed hlow hd hl (by rw [hraw]; decide)
    rw [hraw] at hexec
    refine exec_channelBecomes hexec (isolateOff_moves c _) ?_
    rw [channel_filteredAt, leafCount_filteredAt, returnedChannel_filteredIso]
  · intro c n s d hlow _ hd hraw hl
    refine exec_channelBecomes (exec_leaf hlow hd hraw hl) (leafOpens_moves c _ n) ?_
    rw [channel_filteredAt, leafCount_filteredAt]
  · intro c n s d hlow _ hd hraw hl
    refine exec_channelBecomes (exec_leaf hlow hd hraw hl) (leafCloses_moves c _ n) ?_
    rw [channel_filteredAt, leafCount_filteredAt]
    simp only [allClosed_filteredLeaf hraw]
  · intro c i s d hlow _ hi hd hl hhold
    have hexec := exec_hold hlow hi hd hl hhold
    have hin : (finish (tryEndHold c (filteredAt i d s))).inputs = (filteredAt i d s).inputs :=
      (finish_inputs _).trans (onlyDoors_tryEndHold c _).inputs
    have hset (j : Input) : (finish (tryEndHold c (filteredAt i d s))).settled j = (filteredAt i d s).settled j := by
      unfold State.settled State.input; rw [hin]
    refine ⟨_, hexec, ?_⟩
    simp only [hset]
    rw [tryEndHold_moves, channel_filteredAt, hhold]
    simp only [true_and, channelSettled_iff, leafCount_filteredAt]
    exact channelBecomes_finish c _
  · intro s d hlow hr hd hl hraw
    have hexec := exec_keyActive hlow hd hl hraw
    refine ⟨fun e hauto hrole hst ha hn hline hcab => ?_, fun hauto => ?_⟩
    · obtain ⟨x, hx, hport, hstarted, -⟩ := finish_leadRollCall (e := e) (s := s)
        (u := (inputFiltered .key s).reach d) hr rfl rfl rfl rfl
        (teff_congr_th rfl rfl (congrArg InputLine.level (input_setInput_ne s _ (by decide))) rfl) rfl
        (fun e' => by cases e' <;> rfl) (fun e' => by cases e' <;> rfl) ha hn hst hline hcab
      have hkey : keyActive (filteredAt .key d s) = leadRollCall (filteredAt .key d s) :=
        if_pos (decide_eq_true hauto)
      refine ⟨_, ?_, hstarted, statusSent_enqueue _ hport⟩
      rw [hexec, hkey]
      exact congrArg Host.Outcome.next hx
    · have hoff : keyActive (filteredAt .key d s) = filteredAt .key d s :=
        if_neg (fun h : decide (s.item Item.autoStart = 1) = true => hauto (of_decide_eq_true h))
      rw [hexec, hoff, finish_filteredUnmoved hr (by simp), inputFiltered, hraw]
      rfl
  · intro e s d hlow hr hd hl
    have hexec := exec_settled hlow hd hl
    obtain ⟨hend, -⟩ := finish_compareEnd (e := e) (d := d) (x := (inputFiltered (.cpl e) s).reach d) hr (.refl _) rfl
    refine ⟨_, hexec.trans (congrArg Host.Outcome.next hend), ?_⟩
    rw [compareEnd_present _ _ (by cases e <;> decide) (by cases e <;> decide)]
    rfl
  · intro s d hlow hr hd
    refine ⟨_, exec_th hlow hd, ?_⟩
    obtain ⟨-, hcon, hlead, htarget, hev, hport, -⟩ := finish_onlyDoors (OnlyDoors.refl (filteredAt .th d s))
    obtain ⟨-, htone, -, -⟩ := hr
    exact ⟨hev, finish_doors rfl htone, hcon, hlead, htarget, hport⟩

end Sys2Proof.Machine
end

section
/-! The comparison of a coupling sense with presence, and the statement about the hold-off's expiry (R74, R176). -/

namespace Sys2Proof.Machine

/-! ### The comparison made (R74) -/

/-- What an end's comparison comes to, in the words of R74. -/
theorem comparisonOf_eq (sense present : Bool) : comparisonOf sense present =
    if sense = present then .agree else if sense = true then .segmentFault else .senseMismatch := by
  cases sense <;> cases present <;> rfl

/-- The event raised as a comparison becomes `c` (R74, R176). -/
def Comparison.event : Comparison → Option Event
  | .segmentFault => some .segmentFault
  | .senseMismatch => some .senseMismatch
  | .notMade | .agree => none

@[simp] theorem comparison_raiseIf (b : Bool) (ev : Event) (s : State) (e : End) :
    (raiseIf b ev s).comparison e = s.comparison e := by cases b <;> cases e <;> rfl

/-- The other end's comparison is not touched. -/
theorem comparison_setComparison_ne (s : State) {e x : End} (c : Comparison) (h : x ≠ e) :
    (s.setComparison e c).comparison x = s.comparison x := by
  match e, x, h with
  | .e1, .e2, _ | .e2, .e1, _ => rfl

section compareEnd

variable (e : End) (s : State)

/-- Comparing an end changes the comparisons and the event set, and nothing else. -/
theorem compareEnd_eq : compareEnd e s = { s with
    events := (compareEnd e s).events
    consist := { s.consist with
      comp1 := (compareEnd e s).consist.comp1, comp2 := (compareEnd e s).consist.comp2 } } := by
  rcases compareEnd_cases e s with h | ⟨c, evs, h⟩ <;> rw [h]
  cases e <;> rfl

/-! What a comparison reads is as it was after another. -/

@[simp] theorem compareEnd_holdOff : (compareEnd e s).consist.holdOff = s.consist.holdOff := by rw [compareEnd_eq]
@[simp] theorem compareEnd_settled (i : Input) : (compareEnd e s).settled i = s.settled i := by
  rw [compareEnd_eq]; rfl
@[simp] theorem compareEnd_active (i : Input) : (compareEnd e s).active i = s.active i := by rw [compareEnd_eq]; rfl
@[simp] theorem compareEnd_alive (x : End) : (compareEnd e s).alive x = s.alive x := by
  rw [compareEnd_eq]; cases x <;> rfl

/-- The comparison is made once the hold-off has expired and the sense has settled. -/
theorem compareEnd_comparison : (compareEnd e s).comparison e =
    if s.consist.holdOff = none ∧ s.settled (.cpl e) = true then comparisonOf (s.active (.cpl e)) (s.alive e)
    else s.comparison e := by
  unfold compareEnd; split <;> simp

theorem compareEnd_comparison_ne {x : End} (h : x ≠ e) : (compareEnd e s).comparison x = s.comparison x := by
  unfold compareEnd; split
  · simp [comparison_setComparison_ne s _ h]
  · rfl

variable {e s}

/-- What was present stays so. -/
theorem compareEnd_present_of {ev : Event} (h : s.present ev = true) : (compareEnd e s).present ev = true := by
  unfold compareEnd; split
  · have hset (c : Comparison) : (s.setComparison e c).present ev = true := by cases e <;> exact h
    simp only [present_raiseIf, hset, Bool.true_or]
  · exact h

/-- The event of a fault is raised as the comparison becomes it (R74, R176). -/
theorem compareEnd_raises {c : Comparison} {ev : Event} (hev : c.event = some ev)
    (hnew : (compareEnd e s).comparison e = c) (hold : s.comparison e ≠ c) : (compareEnd e s).present ev = true := by
  rw [compareEnd_comparison] at hnew
  split at hnew
  case isFalse => exact absurd hnew hold
  case isTrue h =>
    unfold compareEnd
    rw [if_pos h]
    dsimp only
    rw [hnew, present_raiseIf, present_raiseIf]
    cases c <;> cases hev <;> simp [hold]

end compareEnd

/-! ### The hold-off expires (R74) -/

section holdOffExpired

variable (s : State)

/-- The hold-off's expiry stops its timer, and changes the comparisons and the event set. -/
theorem holdOffExpired_eq : holdOffExpired s = { s with
    events := (holdOffExpired s).events
    consist := { s.consist with
      holdOff := none, comp1 := (holdOffExpired s).consist.comp1, comp2 := (holdOffExpired s).consist.comp2 } } := by
  unfold holdOffExpired
  rw [compareEnd_eq .e2, compareEnd_eq .e1]

/-- Each end whose sense has settled is compared; the two comparisons do not read each other. -/
theorem holdOffExpired_comparison (e : End) : (holdOffExpired s).comparison e =
    if s.settled (.cpl e) = true then comparisonOf (s.active (.cpl e)) (s.alive e) else s.comparison e := by
  unfold holdOffExpired
  cases e with
  | e1 =>
    rw [compareEnd_comparison_ne _ _ (by decide), compareEnd_comparison]
    exact if_congr (and_iff_right rfl) rfl rfl
  | e2 =>
    rw [compareEnd_comparison, compareEnd_comparison_ne _ _ (by decide)]
    simp only [compareEnd_holdOff, compareEnd_settled, compareEnd_active, compareEnd_alive, true_and]
    rfl

/-- A fault that an end comes to is raised (R176). -/
theorem holdOffExpired_raises {e : End} {c : Comparison} {ev : Event} (hev : c.event = some ev)
    (hnew : (holdOffExpired s).comparison e = c) (hold : s.comparison e ≠ c) : (holdOffExpired s).present ev = true := by
  unfold holdOffExpired at hnew ⊢
  cases e with
  | e1 =>
    rw [compareEnd_comparison_ne _ _ (by decide)] at hnew
    exact compareEnd_present_of (compareEnd_raises hev hnew hold)
  | e2 => exact compareEnd_raises hev hnew (by rw [compareEnd_comparison_ne _ _ (by decide)]; exact hold)

end holdOffExpired

/-- Settles O10: the expiry stops the hold-off and compares both ends. -/
theorem holdOffMakesComparisons : Obligations.HoldOffMakesComparisons := by
  intro s d hlow hd
  have hcomp (e : End) : (s.reach d).comparison e = s.comparison e := by cases e <;> rfl
  have hframe := holdOffExpired_eq (s.reach d)
  refine ⟨holdOffExpired (s.reach d), ?_, ?_, fun e => ?_, fun e hnew hold => ?_, fun e hnew hold => ?_, ?_, ?_⟩
  · show plainEvent (onExpiry s.consist.holdOff holdOffExpired) s = _
    rw [plainEvent_of _ hlow, hd, onExpiry_some]
  · rw [hframe]
  · rw [holdOffExpired_comparison, comparisonOf_eq, hcomp, alive_reach]; rfl
  · exact holdOffExpired_raises (c := .segmentFault) _ rfl hnew (by rw [hcomp]; exact hold)
  · exact holdOffExpired_raises (c := .senseMismatch) _ rfl hnew (by rw [hcomp]; exact hold)
  · rw [hframe]; rfl
  · rw [hframe]; rfl

end Sys2Proof.Machine
end

section
/-! The statement about the reflected SURVEY that comes back to the lead (R83 to R85). -/

namespace Sys2Proof.Machine

/-! ### What a survey finds (R83, R84) -/

/-- The stale test on the fields of a payload. -/
theorem findsStale_ofPayload (l : List Byte) (s : State) : findsStale (SurveyData.ofPayload l) s =
    decide ((byteAt l 4).toNat ≠ s.consist.length ∨ byteAt l 8 ≠ 0) := by
  rw [Bool.decide_or]; rfl

/-- A PLACED node whose survey finds the consist stale enters STALE (R84). -/
theorem surveyTaken_state (d : SurveyData) (s : State) : (surveyTaken d s).consist.state =
    if findsStale d s = true ∧ s.consist.state = .placed then .stale else s.consist.state := by
  unfold surveyTaken
  by_cases h : findsStale d s = true
  · rw [if_pos h, enterStale_state]
    exact if_congr (and_iff_right h).symm rfl rfl
  · rw [if_neg h, if_neg fun hc => h hc.1]; rfl

/-- A survey that is not the outstanding one of a lead in LEADING changes nothing (R83). -/
theorem takeReflectedSurvey_ignored {d : SurveyData} {s : State}
    (h : s.lead.state ≠ .leading ∨ s.survey.outstanding ≠ some d.number) : takeReflectedSurvey d s = s := by
  rcases takeReflectedSurvey_cases d s with ⟨-, e⟩ | ⟨hl, ho, -⟩
  · exact e
  · exact absurd ⟨hl, ho⟩ (not_and_or.2 h)

/-! ### The evaluation reported (R85) -/

/-- The outstanding survey evaluated in an event that began at `s`, and the one LEAD STATUS of it sent. -/
def evaluationReported (d : SurveyData) (s : State) : State :=
  ((surveyTaken d (begin s)).enqueue .cab (queued (leadStatusFrame (surveyTaken d (begin s))))).withScratch Scratch.rest

section evaluationReported

variable (d : SurveyData) (s : State)

theorem finish_surveyTaken (hr : s.atRest) (hroom : s.roomFor .cab 1) :
    finish (surveyTaken d (begin s)) = evaluationReported d s := by
  have hy := surveyTaken_eq d (begin s)
  have hk : KeepsUnits s ((surveyTaken d (begin s)).withScratch s.scratch) := by
    rw [hy]; exact ⟨rfl, rfl, rfl, rfl, rfl⟩
  have hscr : (surveyTaken d (begin s)).scratch = ⟨s.teff, true, none⟩ := congrArg (·.scratch) hy
  have hcab : (surveyTaken d (begin s)).roomFor .cab 1 := by rw [hy]; exact hroom
  rw [finish_settled hr hk (by rw [hscr]), flushStatus_room (by rw [hscr]) (by rw [hscr]) hcab, evaluationReported]

theorem evaluationReported_survey : (evaluationReported d s).survey =
    { s.survey with outstanding := none, misses := 0, record := recordOf d, foundStale := findsStale d s } :=
  (enqueue_survey _ _ _).trans (congrArg (·.survey) (surveyTaken_eq d (begin s)))

theorem evaluationReported_consist : (evaluationReported d s).consist = { s.consist with
    state := if findsStale d s = true ∧ s.consist.state = .placed then .stale else s.consist.state } := by
  refine (enqueue_consist _ _ _).trans ((congrArg (·.consist) (surveyTaken_eq d (begin s))).trans ?_)
  rw [surveyTaken_state]; rfl

theorem evaluationReported_lead : (evaluationReported d s).lead = s.lead :=
  (enqueue_lead _ _ _).trans (congrArg (·.lead) (surveyTaken_eq d (begin s)))

theorem evaluationReported_seq : (evaluationReported d s).seq = s.seq :=
  (enqueue_seq _ _ _).trans (congrArg (·.seq) (surveyTaken_eq d (begin s)))

theorem evaluationReported_doors : (evaluationReported d s).doors = s.doors :=
  (enqueue_doors _ _ _).trans (congrArg (·.doors) (surveyTaken_eq d (begin s)))

theorem evaluationReported_heat : (evaluationReported d s).heat = s.heat :=
  (enqueue_heat _ _ _).trans (congrArg (·.heat) (surveyTaken_eq d (begin s)))

theorem statusSent_evaluationReported {u : State} (hcab : s.puC = u.puC) :
    StatusSent (evaluationReported d s) u (evaluationReported d s) :=
  statusSent_enqueue _ ((congrArg (·.puC) (surveyTaken_eq d (begin s))).trans hcab)

end evaluationReported

/-! ### The reflected SURVEY at the lead (R33, R34, R83) -/

/-- It is handed to the consist unit in the event of its arrival. -/
theorem exec_reflectedSurvey {e : End} {f : LineFrame} {s : State} (h : Heard (.line e) (frameOf f .survey []) s)
    (hp : s.holdsPosition = true) (h1 : s.consist.position = 1) (hrole : s.lead.role = true)
    (he : s.consist.leadEnd = some e.other) (hacc : acceptedOnEnd (frameOf f .survey []) = true)
    (hl : (frameOf f .survey []).leadward = true) : exec (.reflectedSurvey (.line e) f) s =
      .next (finish (takeReflectedSurvey (SurveyData.ofPayload f.body) (begin (heard (.line e) s)))) := by
  rw [exec_heard rfl h (kind_ne_idle_of_accepted hacc), ← (heard_keepsUnits (.line e) s).teff, ← begin_eq_withScratch,
    relay_consumed (s := begin (heard (.line e) s)) ((heard_holdsPosition _ s).trans hp) ((heard_position _ s).trans h1)
      ((congrArg Lead.role (heard_lead _ s)).trans hrole) ((heard_leadEnd _ s).trans he) hacc
      (kind_ne_call_of_leadward hacc hl) hl]
  rfl

/-- Settles O31: the outstanding survey evaluated and reported, and any other passed over. -/
theorem reflectedSurveyIsRecorded : Obligations.ReflectedSurveyIsRecorded := by
  intro e f s h ha hp h1 hrole he hacc hl
  have hexec := exec_reflectedSurvey h hp h1 hrole he hacc hl
  have hk := heard_keepsUnits (.line e) s
  have hlead := heard_lead (.line e) s
  have hsurvey := heard_survey (.line e) s
  refine ⟨fun hst ho hrec hroom => ?_, fun hnot => ?_⟩
  · have hcon := heard_consist_of_alive ha
    have hseq := heard_seq (.line e) s
    have hcab : (heard (.line e) s).puC = s.puC := heard_port_ne (.line e) s (q := .cab) (by simp)
    have hroom' := (heard_roomFor (.line e) .cab s 1).2 hroom
    generalize heard (.line e) s = u at *
    have hitem : (begin u).item Item.autoRecall ≠ 1 := by
      show (u.items.getD _ _) ≠ _
      rw [hk.items]; exact hrec
    have htaken := takeReflectedSurvey_taken (d := SurveyData.ofPayload f.body) (s := begin u)
      ((congrArg Lead.state hlead).trans hst) ((congrArg SurveyUnit.outstanding hsurvey).trans ho) hitem
    rw [htaken, finish_surveyTaken _ u (hk.atRest h.atRest) hroom'] at hexec
    obtain ⟨g, hqueue, hkind, hpayload, -, -, -, -, hgood⟩ :=
      statusSent_evaluationReported (SurveyData.ofPayload f.body) u hcab
    have hsv := evaluationReported_survey (SurveyData.ofPayload f.body) u
    have hcn := evaluationReported_consist (SurveyData.ofPayload f.body) u
    rw [findsStale_ofPayload, hcon] at hsv hcn
    rw [hsurvey] at hsv
    refine ⟨_, g, hexec, ?_, ?_, ?_, ?_, ?_, ?_, hqueue, hkind, hpayload, hgood, ?_, ?_, ?_, ?_⟩
    · exact (evaluationReported_lead _ u).trans hlead
    · rw [hsv]
    · rw [hsv]
    · rw [hsv]; rfl
    · rw [hsv]
    · rw [hsv, hcn]
    · rw [hsv]
    · exact (evaluationReported_doors _ u).trans hk.doors
    · exact (evaluationReported_heat _ u).trans hk.heat
    · exact (evaluationReported_seq _ u).trans hseq
  · have hnot' : (begin (heard (.line e) s)).lead.state ≠ .leading ∨
        (begin (heard (.line e) s)).survey.outstanding ≠ some (SurveyData.ofPayload f.body).number := by
      show (heard (.line e) s).lead.state ≠ _ ∨ (heard (.line e) s).survey.outstanding ≠ _
      rw [hlead, hsurvey]; exact hnot
    rw [hexec, takeReflectedSurvey_ignored hnot', begin_eq_withScratch,
      finish_unmoved (hk.atRest h.atRest) rfl rfl rfl rfl rfl]

end Sys2Proof.Machine
end

section
/-! The statements about an IGNORE, and about a DOOR_RESET and a CLOSE (R89, R95, R96, R99, R112, R113). -/

namespace Sys2Proof.Machine

/-! ### The entry that the scan stops at (R89) -/

/-- The scan stops at the first entry that matches, whatever stands behind it. -/
theorem selected_first {s : State} {code : Byte} {k : Nat} {e : OrderEntry} (hk : s.orders.list[k]? = some e)
    (hm : entryMatches code s e = true)
    (hfirst : ∀ j x, j < k → s.orders.list[j]? = some x → entryMatches code s x = false) :
    s.selected code = some (k, e) := by
  obtain ⟨hlt, rfl⟩ := List.getElem?_eq_some_iff.1 hk
  have hidx : s.orders.list.findIdx? (entryMatches code s) = some k :=
    List.findIdx?_eq_some_iff_getElem.2 ⟨hlt, hm, fun j hj => by
      rw [hfirst j _ hj (List.getElem?_eq_getElem (hj.trans hlt))]; decide⟩
  rw [State.selected, hidx]
  simp [Tab.getD, hlt]

/-- Settles O33: the IGNORE is the entry selected, and its action is the record alone. -/
theorem ignoreEndsTheScan : Obligations.IgnoreEndsTheScan := by
  intro d s k e hk hm hx hfirst
  rw [takeOrder_ignore (selected_first hk hm hfirst) hx]
  rfl

/-! ### A CLOSE or a DOOR_RESET at the channels of a node (R95, R96, R112, R113) -/

/-- The channels that the action is handed to: a CLOSE to those that the ORDER's side names, a DOOR_RESET to both. -/
def namesSide (a : Action) (side : Byte) (s : State) (c : Side) : Bool := a != .close || addressed side s c

/-- What a channel answers: one in FAULT outside the hold takes either action, and one in RELEASED takes a CLOSE too. -/
def State.warningAnswer (s : State) (a : Action) (c : Side) : SideResult :=
  if s.doorFault c = true ∨ (a = .close ∧ (s.channel c).state = .released) then .accepted else .unchanged

/-- The channel as the action leaves it: one that comes from FAULT has its retry count 0. -/
def State.warnedBy (s : State) (a : Action) (c : Side) : Channel :=
  if s.doorFault c = true then
    { s.channel c with state := .warning, retries := 0, timer := s.start (s.itemN Item.warnTime) }
  else if a = .close ∧ (s.channel c).state = .released then
    { s.channel c with state := .warning, timer := s.start (s.itemN Item.warnTime) }
  else s.channel c

theorem doorResetChannel_eq (c : Side) (s : State) :
    doorResetChannel c s = (s.warningAnswer .doorReset c, s.setChannel c (s.warnedBy .doorReset c)) := by
  unfold doorResetChannel State.warningAnswer State.warnedBy
  cases s.doorFault c
  · simp [setChannel_self]
  · cases c <;> rfl

theorem closeChannel_eq (c : Side) (s : State) :
    closeChannel c s = (s.warningAnswer .close c, s.setChannel c (s.warnedBy .close c)) := by
  unfold closeChannel
  split
  · next h =>
    have hf : s.doorFault c = false := by rw [State.doorFault, h]; rfl
    simp [State.warningAnswer, State.warnedBy, hf, h, enterWarning]
  · next h => simp [doorResetChannel_eq, State.warningAnswer, State.warnedBy, h]

/-- What the record holds for a side, whether the action was handed to its channel or not. -/
def State.warningResult (s : State) (a : Action) (side : Byte) (c : Side) : SideResult :=
  if namesSide a side s c = true then s.warningAnswer a c else .notAddressed

/-- The channel that the side is left with. -/
def State.channelWarned (s : State) (a : Action) (side : Byte) (c : Side) : Channel :=
  if namesSide a side s c = true then s.warnedBy a c else s.channel c

theorem handSide_warning {act : Side → State → SideResult × State} {a : Action}
    (hact : ∀ c s, act c s = (s.warningAnswer a c, s.setChannel c (s.warnedBy a c))) (side : Byte) (c : Side) (s : State) :
    handSide act (namesSide a side s) c s = (s.warningResult a side c, s.setChannel c (s.channelWarned a side c)) := by
  unfold handSide State.warningResult State.channelWarned
  split
  · exact hact c s
  · rw [setChannel_self]

/-- Both channels go by the state that the action found, and the record takes their answers (R100). -/
theorem handDoors_warning {act : Side → State → SideResult × State} {a : Action}
    (hact : ∀ c s, act c s = (s.warningAnswer a c, s.setChannel c (s.warnedBy a c))) (d : OrderData) (k : Nat) (s : State) :
    handDoors d k a act (namesSide a d.side s) s = recordOutcome d (some (k, a))
      (doorOutcome (s.warningResult a d.side .a) (s.warningResult a d.side .b))
      (s.warningResult a d.side .a) (s.warningResult a d.side .b)
      { s with doors := { s.doors with a := s.channelWarned a d.side .a, b := s.channelWarned a d.side .b } } := by
  rw [handDoors_eq, handSide_warning hact d.side .a s]
  exact congrArg (fun r : SideResult × State => recordOutcome d (some (k, a))
    (doorOutcome (s.warningResult a d.side .a) r.1) (s.warningResult a d.side .a) r.1 r.2)
    (handSide_warning hact d.side .b (s.setChannel .a (s.channelWarned a d.side .a)))

theorem takeOrder_warning {d : OrderData} {s : State} {k : Nat} {x : OrderEntry} (hsel : s.selected d.code = some (k, x))
    (hr : inRange d s = true) (hx : x.action = .doorReset ∨ x.action = .close) : takeOrder d s =
      recordOutcome d (some (k, x.action))
        (doorOutcome (s.warningResult x.action d.side .a) (s.warningResult x.action d.side .b))
        (s.warningResult x.action d.side .a) (s.warningResult x.action d.side .b)
        { s with doors := { s.doors with
          a := s.channelWarned x.action d.side .a, b := s.channelWarned x.action d.side .b } } := by
  rcases hx with hx | hx
  · rw [takeOrder_doorReset hsel hx, orderDoorReset, if_pos hr, hx]
    exact handDoors_warning doorResetChannel_eq d k s
  · rw [takeOrder_close hsel hx, orderClose, if_pos hr, hx]
    exact handDoors_warning closeChannel_eq d k s

/-- A channel in WARNING has its RELEASE on (R106). -/
theorem output_release_of_warning {s : State} {c : Side} (hlow : s.supplyLow = false)
    (h : (s.channel c).state = .warning) : s.output (.release c) = true := by
  simp [State.output, hlow, h]

/-- Settles O36: each channel's answer and what it is left in, with the rest of the node untouched. -/
theorem doorResetClearsFaults : Obligations.DoorResetClearsFaults := by
  intro d s k x hsel hr hx
  have htake := takeOrder_warning hsel hr hx
  have hnames (c : Side) : namesSide x.action d.side s c = true ↔ ¬ (x.action = .close ∧ addressed d.side s c = false) := by
    simp [namesSide, or_iff_not_imp_left]
  have hfault (c : Side) : s.doorFault c = true ↔ (s.channel c).state = .fault ∧ (s.channel c).hold = false := by
    simp [State.doorFault]
  refine ⟨fun c => ?_, fun c => ?_, fun hlow c hw => output_release_of_warning ?_ hw, ?_, ?_, ?_⟩
  · have hch : (takeOrder d s).channel c = s.channelWarned x.action d.side c := by rw [htake]; cases c <;> rfl
    rw [hch]
    simp only [State.channelWarned, State.warnedBy, hnames, hfault, ite_not]
    rfl
  · have hres : (if c = .a then (takeOrder d s).dispatch.last.sideA else (takeOrder d s).dispatch.last.sideB) =
        s.warningResult x.action d.side c := by rw [htake]; cases c <;> rfl
    rw [hres]
    simp only [State.warningResult, State.warningAnswer, hnames, hfault, ite_not]
  · rw [htake]; exact hlow
  · rw [htake]; rfl
  · rw [htake]; rfl
  · rw [htake]; rfl

end Sys2Proof.Machine
end

section
/-! The statements about the reads and about WRITE TABLE (R101, R102, R139, R178, R182, R184, R185). -/

namespace Sys2Proof.Machine

/-! ### A request that is answered, with what else it does -/

/-- A change of the node that touches neither the cab port, the position nor the scratch fields: it may be made before the
REPLY is offered or after it. -/
structure BesideReply (g : State → State) : Prop where
  cab : ∀ u, (g u).puC = u.puC
  position : ∀ u, (g u).consist.position = u.consist.position
  enqueue : ∀ u q, (g u).enqueue .cab q = g (u.enqueue .cab q)
  scratch : ∀ u c, g (u.withScratch c) = (g u).withScratch c

theorem besideReply_id : BesideReply id := ⟨fun _ => rfl, fun _ => rfl, fun _ _ => rfl, fun _ _ => rfl⟩

theorem BesideReply.reply {g : State → State} (hg : BesideReply g) {u : State} (hroom : u.roomFor .cab 1) (code : Byte)
    (st : Status) (data : List Byte) : reply .cab code st data (g u) = g (reply .cab code st data u) := by
  have hroom' : (g u).roomFor .cab 1 := by unfold State.roomFor State.port at *; rwa [hg.cab]
  rw [reply_cab _ _ _ hroom, reply_cab _ _ _ hroom', hg.position, hg.enqueue]

section answered

variable {i : Instr} {fixed : List Byte} {f : LineFrame} {s : State} {code : Byte} {st : Status} {data : List Byte}

/-- A request that is answered, and has the effect `g`. -/
theorem exec_answered {g : State → State} (hg : BesideReply g)
    (ha : i.arriving = some (.cab, frameOf f .request fixed)) (h : LocalRequest fixed f s)
    (hk : knownCode (byteAt (fixed ++ f.body) 0) = true) (hlen : requestLength (fixed ++ f.body) = true)
    (hans : ∀ c, execute .cab (fixed ++ f.body) ((heard .cab s).withScratch c) =
      reply .cab code st data (g ((heard .cab s).withScratch c))) :
    exec i s = .next (finish ((g (replied code st data s)).withScratch ⟨s.teff, false, none⟩)) := by
  rw [exec_localRequest ha h hk hlen, hans, hg.reply (by simpa using h.room), reply_heard _ _ _ _ h.room, hg.scratch]

/-- Where that leaves doors, heating, inputs and items alone, nothing is settled after it. -/
theorem exec_answeredKeeping {g : State → State} (hg : BesideReply g) (hkeep : ∀ u, KeepsUnits u (g u))
    (ha : i.arriving = some (.cab, frameOf f .request fixed)) (h : LocalRequest fixed f s)
    (hk : knownCode (byteAt (fixed ++ f.body) 0) = true) (hlen : requestLength (fixed ++ f.body) = true)
    (hans : ∀ c, execute .cab (fixed ++ f.body) ((heard .cab s).withScratch c) =
      reply .cab code st data (g ((heard .cab s).withScratch c))) :
    exec i s = .next (g (replied code st data s)) := by
  have hunits := (replied_keepsUnits (s := s) code st data).trans (hkeep _)
  obtain ⟨hd, -, -, -, hs⟩ := id hunits
  rw [exec_answered hg ha h hk hlen hans,
    finish_unmoved h.atRest hd hunits.teff (by rw [hunits.heat]) (by rw [hunits.heat]) hs]

/-- One that has no other effect. -/
theorem exec_answeredOnly (ha : i.arriving = some (.cab, frameOf f .request fixed)) (h : LocalRequest fixed f s)
    (hk : knownCode (byteAt (fixed ++ f.body) 0) = true) (hlen : requestLength (fixed ++ f.body) = true)
    (hans : ∀ c, execute .cab (fixed ++ f.body) ((heard .cab s).withScratch c) =
      reply .cab code st data ((heard .cab s).withScratch c)) :
    ∃ t, exec i s = .next t ∧ OnlyReply code st data s t :=
  ⟨_, exec_answeredKeeping besideReply_id (fun _ => ⟨rfl, rfl, rfl, rfl, rfl⟩) ha h hk hlen hans,
    onlyReply_replied code st data⟩

/-- A read: answered where its range test holds, refused where it fails. -/
theorem exec_read {P : Prop} [Decidable P] (l : List Byte) (ha : i.arriving = some (.cab, frameOf f .request fixed))
    (h : LocalRequest fixed f s) (hp : fixed ++ f.body = l) (hk : knownCode (byteAt l 0) = true)
    (hlen : requestLength l = true) (hans : ∀ c, execute .cab l ((heard .cab s).withScratch c) =
      if P then reply .cab code .done data ((heard .cab s).withScratch c)
      else refuse .cab code st ((heard .cab s).withScratch c)) :
    ∃ t, exec i s = .next t ∧ if P then OnlyReply code .done data s t else OnlyReply code st [] s t := by
  subst hp
  by_cases hP : P
  · simp only [if_pos hP] at hans ⊢
    exact exec_answeredOnly ha h hk hlen hans
  · simp only [if_neg hP] at hans ⊢
    exact exec_answeredOnly ha h hk hlen hans

end answered

/-! ### What a read gives (R182, R184, R185) -/

/-- A frame heard at the cab port changes the value of no item. -/
theorem itemValue_heardCab (s : State) (c : Scratch) (n : Nat) :
    ((heard .cab s).withScratch c).itemValue n = s.itemValue n := by
  unfold heard passedChecks; dsimp only; split <;> rfl

theorem slotValue_heardCab (s : State) (c : Scratch) (n : Nat) :
    ((heard .cab s).withScratch c).slotValue n = s.slotValue n := by
  have hitem : ((heard .cab s).withScratch c).itemN = s.itemN := by
    funext m; exact (heard_keepsUnits .cab s).itemN m
  simp only [State.slotValue, hitem, itemValue_heardCab]

theorem itemRange_iff {a n : Nat} : itemRange a n = true ↔ 1 ≤ n ∧ n ≤ 16 ∧ a + n ≤ 89 := by
  simp [itemRange, and_assoc]

theorem tableRange_iff {t a n : Nat} :
    tableRange t a n = true ↔ 1 ≤ n ∧ n ≤ (tableLimits t).1 ∧ a + n ≤ (tableLimits t).2 := by
  simp [tableRange, and_assoc]

/-- Entries `a` to `a + n − 1` of a table, one by one. -/
theorem map_getD_range {α : Type} {m a n : Nat} (t : Tab α m) (d : α) (h : a + n ≤ m) :
    (List.range n).map (fun i => t.getD (a + i) d) = (t.list.drop a).take n := by
  have hlen := t.size
  refine List.ext_getElem (by simp; omega) fun i hi _ => ?_
  have hi' : a + i < t.list.length := by simp at hi; omega
  simp [Tab.getD, hi']

/-- READ TABLE answers the entries in the order of the table (R102, R184). -/
theorem answerReadTable_eq {α : Type} {m : Nat} (tab : Tab α m) (d : α) (bytes : α → List Byte) (src : Source)
    (t a n : Byte) (s : State) (hsize : (tableLimits t.toNat).2 = m)
    (hbytes : ∀ i, s.entryBytes t.toNat i = bytes (tab.getD i d)) : answerReadTable src t a n s =
      if 1 ≤ n.toNat ∧ n.toNat ≤ (tableLimits t.toNat).1 ∧ a.toNat + n.toNat ≤ m then
        reply src 3 .done ([t, a, n] ++ ((tab.list.drop a.toNat).take n.toNat).flatMap bytes) s
      else refuse src 3 .badEntry s := by
  subst hsize
  unfold answerReadTable
  simp only [tableRange_iff]
  split
  · next h =>
    rw [← map_getD_range tab d h.2.2, List.flatMap_map]
    simp only [hbytes]
  · rfl

/-- The node with every event present removed (R178). -/
def eventsRead (s : State) : State := { s with events := 0 }

theorem besideReply_eventsRead : BesideReply eventsRead :=
  ⟨fun _ => rfl, fun _ => rfl, fun _ _ => rfl, fun _ _ => rfl⟩

/-- Settles O50: each read answered from what the node held, and the events returned removed. -/
theorem readsAreAnswered : Obligations.ReadsAreAnswered := by
  intro f s a n
  refine ⟨fun h hb => ?_, fun h hb => ?_, fun h hb => ?_, fun h hb => ?_, fun h hb => ?_, fun h hb => ?_⟩
  · refine exec_read [1, a, n] rfl h (by rw [hb]; rfl) rfl rfl fun c => ?_
    show answerReadItems .cab a n _ = _
    simp only [answerReadItems, itemRange_iff, State.itemValues, itemValue_heardCab]
  · refine exec_read [3, 0, a, n] rfl h (by rw [hb]; rfl) rfl rfl fun c => ?_
    rw [← heard_orders .cab s]
    exact answerReadTable_eq _ blankOrder OrderEntry.bytes .cab 0 a n _ rfl fun _ => rfl
  · refine exec_read [3, 1, a, n] rfl h (by rw [hb]; rfl) rfl rfl fun c => ?_
    rw [← heard_heat .cab s]
    exact answerReadTable_eq _ blankStage StageEntry.bytes .cab 1 a n _ rfl fun _ => rfl
  · refine exec_read [3, 2, a, n] rfl h (by rw [hb]; rfl) rfl rfl fun c => ?_
    rw [← heard_cab_consist s]
    exact answerReadTable_eq _ none placeBytes .cab 2 a n _ rfl fun _ => rfl
  · refine exec_read [5, a, n] rfl h (by rw [hb]; rfl) rfl rfl fun c => ?_
    show answerReadMap .cab a n _ = _
    simp only [answerReadMap, slotValue_heardCab]
    rfl
  · have hev : (heard .cab s).events = s.events := by rw [heard_cab_eq]
    have hback : { eventsRead (replied 6 .done (eventBytes s.events) s) with events := s.events } =
        replied 6 .done (eventBytes s.events) s := by rw [replied_eq]; rfl
    refine ⟨_, exec_answeredKeeping (code := 6) (st := .done) (data := eventBytes s.events) besideReply_eventsRead
      (fun _ => ⟨rfl, rfl, rfl, rfl, rfl⟩) rfl h (by rw [hb]; rfl) (by rw [hb]; rfl) fun c => ?_, rfl, ?_⟩
    · rw [hb, ← hev]; rfl
    · rw [hback]
      exact onlyReply_replied ..

/-! ### WRITE TABLE (R101, R139, R184) -/

/-- The node with entries stored in its order table. -/
def ordersStored (a : Nat) (es : List OrderEntry) (s : State) : State := { s with orders := s.orders.setFrom a es }

/-- The node with entries stored in its stage table. -/
def stagesStored (a : Nat) (es : List StageEntry) (s : State) : State :=
  { s with heat := { s.heat with stages := s.heat.stages.setFrom a es } }

theorem besideReply_ordersStored (a : Nat) (es : List OrderEntry) : BesideReply (ordersStored a es) :=
  ⟨fun _ => rfl, fun _ => rfl, fun _ _ => rfl, fun _ _ => rfl⟩

theorem besideReply_stagesStored (a : Nat) (es : List StageEntry) : BesideReply (stagesStored a es) :=
  ⟨fun _ => rfl, fun _ => rfl, fun _ _ => rfl, fun _ _ => rfl⟩

section write

variable {src : Source} {a n : Byte} {l : List Byte} {s : State}

theorem answerWriteTable_busy {table : Byte} (h : s.mgmt.store = .storing) :
    answerWriteTable src table a n l s = refuse src 4 .busy s := if_pos h

theorem answerWriteTable_orders (hst : s.mgmt.store ≠ .storing) (hr : tableRange 0 a.toNat n.toNat = true) :
    answerWriteTable src 0 a n l s = writeOrders src a n l s := by
  rw [answerWriteTable, if_neg hst, if_neg (by decide)]
  exact (if_neg (by simp [hr])).trans (if_pos rfl)

theorem writeOrders_none (h : OrderEntry.listOf n.toNat l = none) :
    writeOrders src a n l s = refuse src 4 .badEntry s := by simp only [writeOrders, h]

theorem writeOrders_some {es : List OrderEntry} (h : OrderEntry.listOf n.toNat l = some es) :
    writeOrders src a n l s = reply src 4 .done [0, a, n] (ordersStored a.toNat es s) := by
  simp only [writeOrders, h, ordersStored]

theorem answerWriteTable_stages (hst : s.mgmt.store ≠ .storing) (hr : tableRange 1 a.toNat n.toNat = true) :
    answerWriteTable src 1 a n l s =
      if stagesGood (s.heat.stages.setFrom a.toNat (StageEntry.listOf n.toNat l)) = true then
        reply src 4 .done [1, a, n] (stagesStored a.toNat (StageEntry.listOf n.toNat l) s)
      else refuse src 4 .badEntry s := by
  rw [answerWriteTable, if_neg hst, if_neg (by decide)]
  exact (if_neg (by simp [hr])).trans (if_neg (by decide))

end write

/-! ### The end of the event that has changed the stage table (R138, R146, R147) -/

/-- The end of an event changes nothing that the effective target goes by. -/
theorem finish_teff {s : State} (h : s.scratch.statusDue = false) : (finish s).teff = s.teff := by
  rw [finish_owesNothing h]; rfl

/-- The stages are stored, those above the new effective target are off, and nothing outside the heating unit has moved. -/
theorem finish_stagesStored {s u : State} (a : Nat) (es : List StageEntry) (hr : s.atRest) (hk : KeepsUnits s u)
    {t : State} (ht : t = finish ((stagesStored a es u).withScratch ⟨s.teff, false, none⟩)) :
    t.heat.stages = s.heat.stages.setFrom a es ∧ t.heat.level = min s.heat.level t.teff ∧
      t.heat.target = s.heat.target ∧ { t with heat := s.heat } = u := by
  obtain ⟨hd, hh, -, -, hs⟩ := hk
  set y := (stagesStored a es u).withScratch ⟨s.teff, false, none⟩ with hy
  have hend := finish_owesNothing (s := y) rfl
  have hdoors : (finish y).doors = u.doors := finish_doors (s := y) rfl (by
    rw [toneDemand_congr (s := s) (t := y) hd, ← hr.2.1]; exact congrArg (·.tone.isSome) hd)
  subst ht
  refine ⟨?_, ?_, ?_, ?_⟩
  · rw [hend, hy, ← hh]; rfl
  · rw [finish_teff (s := y) rfl, finish_level (s := y) rfl, hy, ← hh]; rfl
  · rw [hend, hy, ← hh]; rfl
  · calc { finish y with heat := s.heat }
        = { y with doors := (finish y).doors, heat := s.heat, scratch := Scratch.rest } := by
          rw [hend]
      _ = u := by rw [hdoors, ← hh, ← hr.1, ← hs]; rfl

/-! ### The two commands -/

section tables

variable {f : LineFrame} {s : State} {a n : Byte} {l : List Byte}

theorem requestLength_orders (h : l.length = 8 * n.toNat) : requestLength ([4, 0, a, n] ++ l) = true := by
  simp [requestLength, tableWriteLength, byteAt, h]; omega

theorem requestLength_stages (h : l.length = 2 * n.toNat) : requestLength ([4, 1, a, n] ++ l) = true := by
  simp [requestLength, tableWriteLength, byteAt, h]; omega

theorem store_heardCab (s : State) (c : Scratch) : ((heard .cab s).withScratch c).mgmt.store = s.mgmt.store := by simp

/-- A WRITE TABLE that is refused brings its REPLY alone: no entry changes. -/
theorem exec_tableRefused {i : Instr} {fixed : List Byte} {table : Byte} {st : Status}
    (ha : i.arriving = some (.cab, frameOf f .request fixed)) (h : LocalRequest fixed f s)
    (hp : fixed ++ f.body = [4, table, a, n] ++ l) (hlen : requestLength ([4, table, a, n] ++ l) = true)
    (hans : ∀ c, answerWriteTable .cab table a n l ((heard .cab s).withScratch c) =
      refuse .cab 4 st ((heard .cab s).withScratch c)) :
    ∃ t, exec i s = .next t ∧ OnlyReply 4 st [] s t :=
  exec_answeredOnly ha h (by rw [hp]; rfl) (by rw [hp]; exact hlen) fun c => by rw [hp]; exact hans c

/-- Entries of the order table that pass the content tests (R101). -/
theorem exec_ordersStored {es : List OrderEntry} (h : LocalRequest [4, 0] f s)
    (hp : [4, 0] ++ f.body = [4, 0, a, n] ++ l) (hlen : requestLength ([4, 0, a, n] ++ l) = true)
    (hst : s.mgmt.store ≠ .storing) (hr : tableRange 0 a.toNat n.toNat = true)
    (hes : OrderEntry.listOf n.toNat l = some es) : ∃ t, exec (.writeOrderTable .cab f) s = .next t ∧
      t.orders = s.orders.setFrom a.toNat es ∧ OnlyReply 4 .done [0, a, n] s { t with orders := s.orders } := by
  have hstored := replied_eq (s := s) 4 .done [0, a, n]
  have hback : { ordersStored a.toNat es (replied 4 .done [0, a, n] s) with orders := s.orders } =
      replied 4 .done [0, a, n] s := by rw [hstored]; rfl
  refine ⟨_, exec_answeredKeeping (code := 4) (st := .done) (data := [0, a, n]) (besideReply_ordersStored a.toNat es)
    (fun _ => ⟨rfl, rfl, rfl, rfl, rfl⟩) rfl h (by rw [hp]; rfl) (by rw [hp]; exact hlen) fun c => ?_, ?_, ?_⟩
  · rw [hp]
    exact (answerWriteTable_orders (by rwa [store_heardCab]) hr).trans (writeOrders_some hes)
  · rw [hstored]; rfl
  · rw [hback]
    exact onlyReply_replied ..

/-- Entries that leave the enabled stages a prefix of the stage table (R138, R139). -/
theorem exec_stagesStored (h : LocalRequest [4] f s) (hp : [4] ++ f.body = [4, 1, a, n] ++ l)
    (hlen : requestLength ([4, 1, a, n] ++ l) = true) (hst : s.mgmt.store ≠ .storing)
    (hr : tableRange 1 a.toNat n.toNat = true)
    (hgood : stagesGood (s.heat.stages.setFrom a.toNat (StageEntry.listOf n.toNat l)) = true) :
    ∃ t, exec (.writeStageTable .cab f) s = .next t ∧
      t.heat.stages = s.heat.stages.setFrom a.toNat (StageEntry.listOf n.toNat l) ∧
      t.heat.level = min s.heat.level t.teff ∧ t.heat.target = s.heat.target ∧
      OnlyReply 4 .done [1, a, n] s { t with heat := s.heat } := by
  obtain ⟨hstages, hlevel, htarget, hback⟩ := finish_stagesStored a.toNat (StageEntry.listOf n.toNat l) h.atRest
    (replied_keepsUnits (s := s) 4 .done [1, a, n]) rfl
  refine ⟨_, exec_answered (code := 4) (st := .done) (data := [1, a, n])
    (besideReply_stagesStored a.toNat (StageEntry.listOf n.toNat l)) rfl h (by rw [hp]; rfl) (by rw [hp]; exact hlen)
    fun c => ?_, hstages, hlevel, htarget, ?_⟩
  · have hheat : ((heard .cab s).withScratch c).heat = s.heat := heard_heat .cab s
    rw [hp]
    exact (answerWriteTable_stages (by rwa [store_heardCab]) hr).trans (if_pos (by rwa [hheat]))
  · rw [hback]
    exact onlyReply_replied ..

end tables

/-- Settles O52: BUSY while STORING; and else the entries stored where they pass their tests, and refused where they do
not. -/
theorem tablesAreWrittenWhole : Obligations.TablesAreWrittenWhole := by
  intro f s a n l
  refine ⟨fun h hb hl h1 h5 h24 => ?_, fun h hb hl h1 h4 h4' => ?_⟩
  · have hp : [4, 0] ++ f.body = [4, 0, a, n] ++ l := by rw [hb]; rfl
    have hlen := requestLength_orders (a := a) hl
    have hr : tableRange 0 a.toNat n.toNat = true := tableRange_iff.2 ⟨h1, h5, h24⟩
    by_cases hst : s.mgmt.store = .storing
    · simp only [if_pos hst]
      exact exec_tableRefused rfl h hp hlen fun c => answerWriteTable_busy (by rwa [store_heardCab])
    simp only [if_neg hst]
    cases hes : OrderEntry.listOf n.toNat l with
    | none =>
      exact exec_tableRefused rfl h hp hlen fun c =>
        (answerWriteTable_orders (by rwa [store_heardCab]) hr).trans (writeOrders_none hes)
    | some es => exact exec_ordersStored h hp hlen hst hr hes
  · have hp : [4] ++ f.body = [4, 1, a, n] ++ l := by rw [hb]; rfl
    have hlen := requestLength_stages (a := a) hl
    have hr : tableRange 1 a.toNat n.toNat = true := tableRange_iff.2 ⟨h1, h4, h4'⟩
    by_cases hst : s.mgmt.store = .storing
    · simp only [if_pos hst]
      exact exec_tableRefused rfl h hp hlen fun c => answerWriteTable_busy (by rwa [store_heardCab])
    simp only [if_neg hst]
    split_ifs with hgood
    · exact exec_stagesStored h hp hlen hst hr hgood
    · have hheat (c : Scratch) : ((heard .cab s).withScratch c).heat = s.heat := heard_heat .cab s
      exact exec_tableRefused rfl h hp hlen fun c =>
        (answerWriteTable_stages (by rwa [store_heardCab]) hr).trans (if_neg (by rwa [hheat]))

end Sys2Proof.Machine
end

section
/-! Every step leaves the node at rest (R124, R146, R147, R150, R151): the end of an event settles the tone and the energizer
whatever the event has done, a plain event touches neither, and a reset leaves both off. -/

namespace Sys2Proof.Machine

/-! ### The end of an event -/

theorem settleHeat_teff (s : State) : (settleHeat s).teff = s.teff := by rw [settleHeat_eq]; rfl

namespace KeepsUnits

theorem refl (s : State) : KeepsUnits s s := ⟨rfl, rfl, rfl, rfl, rfl⟩

theorem ite {s t u : State} {c : Prop} [Decidable c] (ht : KeepsUnits s t) (hu : KeepsUnits s u) :
    KeepsUnits s (if c then t else u) := by
  split <;> assumption

end KeepsUnits

theorem keepsUnits_raise (ev : Event) (s : State) : KeepsUnits s (raise ev s) := .refl s

theorem keepsUnits_setPort (s : State) (p : Port) (u : PortUnit) : KeepsUnits s (s.setPort p u) := by
  rcases p with (_ | _) | _ <;> exact .refl s

theorem keepsUnits_offerQueued (p : Port) (q : Queued) (s : State) : KeepsUnits s (offerQueued p q s) := by
  rcases offerQueued_cases p q s with ⟨-, e⟩ | ⟨-, e⟩ <;> rw [e]
  · exact keepsUnits_setPort s p _
  · exact (keepsUnits_setPort s p _).trans (keepsUnits_raise _ _)

theorem keepsUnits_flushMiss (s : State) : KeepsUnits s (flushMiss s) := by
  cases h : s.scratch.missed with
  | none => rw [flushMiss_none h]; exact .refl s
  | some u => rw [flushMiss_some h]; exact keepsUnits_offerQueued _ _ s

theorem keepsUnits_flushStatus (s : State) : KeepsUnits s (flushStatus s) :=
  .ite ((keepsUnits_flushMiss s).trans (keepsUnits_offerQueued _ _ _)) (.refl s)

/-- A state that is settled, with the units it has kept and the scratch fields cleared. -/
theorem atRest_of_settled {m u : State} (h : KeepsUnits m u) (htone : m.doors.tone.isSome = m.toneDemand)
    (hlevel : m.heat.level ≤ m.teff) (hraise : m.heat.raise.isSome = true → m.heat.level < m.teff) :
    (u.withScratch Scratch.rest).atRest := by
  refine ⟨rfl, ?_, ?_, ?_⟩
  · show u.doors.tone.isSome = u.toneDemand
    rw [toneDemand_congr h.doors, h.doors, htone]
  · show u.heat.level ≤ u.teff
    rwa [h.teff, h.heat]
  · show u.heat.raise.isSome = true → u.heat.level < u.teff
    rwa [h.teff, h.heat]

/-- The end of any event leaves the state at rest (R124, R146, R147). -/
theorem finish_atRest (s : State) : (finish s).atRest := by
  show ((flushStatus (settleHeat (settleTone s))).withScratch Scratch.rest).atRest
  refine atRest_of_settled (keepsUnits_flushStatus _) ?_ ?_ fun h => ?_
  · rw [settleHeat_eq]; exact settleTone_agrees s
  · rw [settleHeat_teff, settleHeat_level]; exact Nat.min_le_right _ _
  · rw [settleHeat_teff]; exact settleHeat_raise h

/-! ### The port units and the comparisons, which plain events move -/

theorem keepsUnits_setEnd (s : State) (e : End) (u : EndUnit) : KeepsUnits s (s.setEnd e u) := by
  cases e <;> exact .refl s

theorem keepsUnits_restartIdle (p : Port) (s : State) : KeepsUnits s (restartIdle p s) := by
  cases p
  · exact keepsUnits_setEnd s _ _
  · exact .refl s

theorem keepsUnits_dropFrame (p : Port) (next : RxState) (s : State) : KeepsUnits s (dropFrame p next s) :=
  (keepsUnits_setPort s p _).trans (keepsUnits_raise _ _)

theorem keepsUnits_lineError (p : Port) (s : State) : KeepsUnits s (lineError p s) :=
  (keepsUnits_setPort s p _).trans (keepsUnits_raise _ _)

theorem keepsUnits_loseLock (p : Port) (next : RxState) (s : State) : KeepsUnits s (loseLock p next s) :=
  have h {α : Type} (f : State → α) := congrArg f (loseLock_rest p next s)
  ⟨h State.doors, h State.heat, h State.inputs, h State.items, h State.scratch⟩

theorem keepsUnits_hearSync (p : Port) (bitTime : Nat) (c : Character) (s : State) :
    KeepsUnits s (hearSync p bitTime c s) := by
  have hr (t : State) : KeepsUnits t (restartLock p t) := by cases p <;> exact .refl t
  refine .ite ?_ (.refl s)
  split
  · exact .ite ((keepsUnits_setPort s p _).trans (hr _)) (keepsUnits_setPort s p _)
  · exact keepsUnits_dropFrame p _ s

theorem keepsUnits_takeBreak (p : Port) (spaceBits : Nat) (s : State) : KeepsUnits s (takeBreak p spaceBits s) := by
  refine .ite ?_ (.refl s)
  rw [watchBreak_eq]
  exact (keepsUnits_loseLock p .discarding s).trans (keepsUnits_setPort _ p _)

theorem keepsUnits_enterStale (s : State) : KeepsUnits s (enterStale s) := by rw [enterStale_eq]; exact .refl s

theorem keepsUnits_compareEnd (e : End) (s : State) : KeepsUnits s (compareEnd e s) := by
  rcases compareEnd_cases e s with h | ⟨c, evs, h⟩ <;> rw [h]
  · exact .refl s
  · cases e <;> exact .refl s

theorem keepsUnits_silenceExpired (e : End) (s : State) : KeepsUnits s (silenceExpired e s) := by
  unfold silenceExpired
  rw [presenceChanged_eq]
  exact (keepsUnits_setEnd s e _).trans (keepsUnits_loseLock _ .hunt _)

theorem keepsUnits_leadLossExpired (s : State) : KeepsUnits s (leadLossExpired s) := by
  rw [leadLossExpired_eq]; exact .refl s

theorem keepsUnits_holdOffExpired (s : State) : KeepsUnits s (holdOffExpired s) :=
  (keepsUnits_compareEnd .e1 { s with consist := { s.consist with holdOff := none } }).trans
    (keepsUnits_compareEnd .e2 _)

theorem keepsUnits_storeDone (s : State) : KeepsUnits s (storeDone s) := by
  unfold storeDone payOwed; split
  · exact keepsUnits_offerQueued _ _ _
  · exact .refl s

theorem keepsUnits_onExpiry {f : State → State} (h : ∀ s, KeepsUnits s (f s)) (t : Timer) (s : State) :
    KeepsUnits s (onExpiry t f s) := by
  cases t with
  | none => exact .refl s
  | some d => exact h (s.reach d)

/-! ### Inputs and resets -/

/-- The effective target of a state whose inputs have kept their filtered levels (R144, R146). -/
theorem teff_withInputs {s t : State} (ht : { s with inputs := t.inputs } = t)
    (h : (t.input .th).level = (s.input .th).level) : t.teff = s.teff :=
  teff_congr_th (congrArg State.doors ht).symm (congrArg State.heat ht).symm h (congrArg State.items ht).symm

/-- An edge at a pin leaves every filtered level as it is (R172). -/
theorem rawEdgeAt_level (i : Input) (a : Bool) (s : State) (j : Input) :
    ((rawEdgeAt i a s).input j).level = (s.input j).level := by
  unfold rawEdgeAt; dsimp only; split
  · rfl
  · by_cases h : j = i
    · subst h; rw [input_setInput]
    · rw [input_setInput_ne s _ h]

theorem rawEdgeAt_eq (i : Input) (a : Bool) (s : State) :
    rawEdgeAt i a s = { s with inputs := (rawEdgeAt i a s).inputs } := by
  unfold rawEdgeAt; dsimp only; split <;> rfl

theorem rawEdgeAt_atRest {i : Input} {a : Bool} {s : State} (h : s.atRest) : (rawEdgeAt i a s).atRest := by
  have ht := teff_withInputs (rawEdgeAt_eq i a s).symm (rawEdgeAt_level i a s .th)
  obtain ⟨hs, htone, hlevel, hraise⟩ := h
  rw [← ht] at hlevel hraise
  rw [rawEdgeAt_eq] at hlevel hraise ⊢
  exact ⟨hs, htone, hlevel, hraise⟩

/-- No channel is in WARNING as a reset leaves it (R108). -/
theorem Channel.reset_ne_warning (n : Nat) : (Channel.reset n).state ≠ .warning := by
  unfold Channel.reset; split <;> simp

/-- After the start of a reset no tone is on demand, and no stage is energized or due (R155). -/
theorem resetBegin_atRest (cause : ResetCause) (s : State) : (resetBegin cause s).atRest := by
  obtain ⟨-, -, -, -, -, -, -, -, -, -, -, hdoors, hheat, -⟩ := resetBegin_afterReset cause s
  refine ⟨?_, ?_, ?_, ?_⟩
  · unfold resetBegin; rw [raiseIf_scratch]; rfl
  · simp [State.toneDemand, hdoors, Doors.reset, Channel.reset_ne_warning]
  · rw [hheat]; exact Nat.zero_le _
  · rw [hheat]; intro h; cases h

theorem resetEnd_atRest {s : State} (h : s.atRest) : (resetEnd s).atRest := by
  have hth : ((resetEnd s).input .th).level = (s.input .th).level := by rw [resetEnd_input]
  have ht : (resetEnd s).teff = s.teff :=
    teff_withInputs (s := s) (t := { s with inputs := startStability s }) rfl hth
  obtain ⟨hs, htone, hlevel, hraise⟩ := h
  rw [← ht] at hlevel hraise
  exact ⟨hs, htone, hlevel, hraise⟩

theorem resetNode_atRest (cause : ResetCause) (s : State) : (resetNode cause s).atRest :=
  resetEnd_atRest (resetBegin_atRest cause s)

theorem atRest_ite {c : Prop} [Decidable c] {a b : State} (ha : a.atRest) (hb : b.atRest) :
    (if c then a else b).atRest := by
  split <;> assumption

theorem pendingReset_atRest {s : State} (h : s.atRest) : (pendingReset s).atRest :=
  atRest_ite (resetNode_atRest _ s) h

/-- What leaves the queue may bring the reset that it was answered for (R187). -/
theorem popHead_atRest {p : Port} {s : State} (h : s.atRest) : (popHead p s).atRest := by
  have hp (u : PortUnit) : (restartIdle p (s.setPort p u)).atRest :=
    ((keepsUnits_setPort s p u).trans (keepsUnits_restartIdle p _)).atRest h
  unfold popHead; dsimp only; split
  · exact atRest_ite (pendingReset_atRest (hp _)) (hp _)
  · exact hp _

theorem sent_atRest {p : Port} {s : State} (h : s.atRest) : (sent p s).atRest := by
  unfold sent; dsimp only; split
  · exact h
  · exact popHead_atRest h
  · exact ((keepsUnits_setPort s p _).trans (keepsUnits_restartIdle p _)).atRest h

theorem collide_atRest {p : Port} {s : State} (h : s.atRest) : (collide p s).atRest := by
  unfold collide; dsimp only; split
  · exact h
  · exact ((keepsUnits_setPort s p _).trans ((keepsUnits_lineError p _).trans (keepsUnits_restartIdle p _))).atRest h
  · exact atRest_ite ((keepsUnits_setPort s p _).atRest h) (popHead_atRest ((keepsUnits_lineError p s).atRest h))

/-- An IDLE heard, or a frame dropped (R7). -/
theorem keepsUnits_receiveIdle {p : Port} {f : Frame} (hk : f.kind = .idle) (s : State) :
    KeepsUnits s (receive p f s) := by
  refine .ite (.refl s) (.ite (keepsUnits_dropFrame p _ s) (.ite (keepsUnits_dropFrame p _ s) ?_))
  dsimp only
  rw [if_pos hk]
  exact heard_keepsUnits p s

/-! ### Every command -/

theorem event_atRest {f : State → State} {s t : State} (hs : s.atRest) (h : event f s = .next t) : t.atRest := by
  cases h
  exact atRest_ite hs (finish_atRest _)

theorem plainEvent_atRest {f : State → State} {s t : State} (hf : s.atRest → (f s).atRest) (hs : s.atRest)
    (h : plainEvent f s = .next t) : t.atRest := by
  cases h
  exact atRest_ite hs (hf hs)

/-- A plain event that touches none of the units that the end of an event would settle. -/
theorem plainEvent_atRest_of_keeps {f : State → State} {s t : State} (hf : KeepsUnits s (f s)) (hs : s.atRest)
    (h : plainEvent f s = .next t) : t.atRest := plainEvent_atRest hf.atRest hs h

theorem exec_atRest {i : Instr} {s t : State} (hs : s.atRest) (h : exec i s = .next t) : t.atRest := by
  cases ha : i.arriving with
  | some a =>
    obtain ⟨p, f⟩ := a
    rcases exec_arriving ha s with ⟨hk, e⟩ | e <;> rw [e] at h
    · exact plainEvent_atRest_of_keeps (keepsUnits_receiveIdle hk s) hs h
    · exact event_atRest hs h
  | none =>
    cases i
    all_goals simp only [Instr.arriving, reduceCtorEq] at ha
    case syncCharacter p b c => exact plainEvent_atRest_of_keeps (keepsUnits_hearSync p b c s) hs h
    case syncError | parityError | lengthError | gapError | checkError =>
      exact plainEvent_atRest_of_keeps (.ite (keepsUnits_dropFrame _ _ s) (.refl s)) hs h
    case returnToHunt | transmitStart =>
      exact plainEvent_atRest_of_keeps (.ite (keepsUnits_setPort s _ _) (.refl s)) hs h
    case lineBreak p n => exact plainEvent_atRest_of_keeps (keepsUnits_takeBreak p n s) hs h
    case lineHoldWatchArmed => exact plainEvent_atRest_of_keeps (f := armWatch) (.refl s) hs h
    case lineHoldReset =>
      refine plainEvent_atRest (fun hs => atRest_ite ?_ hs) hs h
      cases s.cab.holdTimer with
      | none => exact hs
      | some d => exact resetNode_atRest _ (s.reach d)
    case lockTimerExpiry =>
      exact plainEvent_atRest_of_keeps (keepsUnits_onExpiry (keepsUnits_loseLock .cab .hunt) _ s) hs h
    case silenceTimerExpiry e =>
      exact plainEvent_atRest_of_keeps (keepsUnits_onExpiry (keepsUnits_silenceExpired e) _ s) hs h
    case idleTimerExpiry e =>
      exact plainEvent_atRest_of_keeps (keepsUnits_onExpiry (fun s => keepsUnits_setEnd s e _) _ s) hs h
    case transmitComplete => exact plainEvent_atRest sent_atRest hs h
    case collision => exact plainEvent_atRest collide_atRest hs h
    case storeTimerExpiry =>
      exact plainEvent_atRest_of_keeps (keepsUnits_onExpiry keepsUnits_storeDone _ s) hs h
    case requestedReset => exact plainEvent_atRest pendingReset_atRest hs h
    case leadLossExpiry =>
      exact plainEvent_atRest_of_keeps (keepsUnits_onExpiry keepsUnits_leadLossExpired _ s) hs h
    case holdOffExpiry =>
      exact plainEvent_atRest_of_keeps (keepsUnits_onExpiry keepsUnits_holdOffExpired _ s) hs h
    case rawEdge => cases h; exact rawEdgeAt_atRest hs
    case supplyReset => cases h; exact resetBegin_atRest .supply s
    case supplyAboveUpperThreshold => cases h; exact atRest_ite (resetEnd_atRest hs) hs
    all_goals exact event_atRest hs h

/-- Settles O57: the timebase moves none of what is settled, and every command leaves it settled. -/
theorem stepsKeepRest : Obligations.StepsKeepRest := by
  intro s t hs h
  unfold step at h
  split at h
  · next c rest _ => exact exec_atRest (s := { s with pending := rest }) hs h
  · cases h
    unfold tick; split <;> exact hs

end Sys2Proof.Machine
end

section
/-! What the door invariants read, and the operations that leave it alone: a door channel is moved by the door unit, by an
ORDER, by a WRITE ITEMS and by a reset, and by nothing else (R104 to R123). -/

namespace Sys2Proof.Machine

/-- The door channels, the inputs and the items: what the door invariants read. -/
def State.doorView (s : State) : Channel × Channel × Tab InputLine 15 × Tab Word 51 :=
  (s.doors.a, s.doors.b, s.inputs, s.items)

theorem KeepsUnits.doorView {s t : State} (h : KeepsUnits s t) : t.doorView = s.doorView := by
  obtain ⟨hd, -, hi, hm, -⟩ := h
  unfold State.doorView; rw [hd, hi, hm]

/-- A choice between two states that show one view. -/
theorem doorView_ite {c : Prop} [Decidable c] {a b s : State} (ha : a.doorView = s.doorView)
    (hb : b.doorView = s.doorView) : (if c then a else b).doorView = s.doorView := by
  split <;> assumption

@[simp] theorem doorView_raiseIf (b : Bool) (ev : Event) (s : State) : (raiseIf b ev s).doorView = s.doorView := by
  cases b <;> rfl

/-! ### Frames offered, and the end of an event -/

@[simp] theorem doorView_offer (p : Port) (f : Frame) (r : LineRate) (s : State) :
    (offer p f r s).doorView = s.doorView := (keepsUnits_offerQueued p ⟨f, r, false⟩ s).doorView

@[simp] theorem doorView_offerEnd (e : Option End) (f : Frame) (r : LineRate) (s : State) :
    (offerEnd e f r s).doorView = s.doorView := by
  cases e
  · rfl
  · exact doorView_offer _ f r s

theorem doorView_sendTail (e : End) (d : TailData) (s : State) : (sendTail e d s).doorView = s.doorView :=
  doorView_offer _ _ _ s

theorem doorView_originate (k : Kind) (l : List Byte) (s : State) : (originate k l s).doorView = s.doorView :=
  doorView_ite rfl (doorView_offerEnd _ _ _ s)

@[simp] theorem doorView_finish (s : State) : (finish s).doorView = s.doorView := by
  calc (finish s).doorView
    _ = (settleHeat (settleTone s)).doorView := (keepsUnits_flushStatus _).doorView
    _ = (settleTone s).doorView := by rw [settleHeat_eq]; rfl
    _ = s.doorView := by rw [settleTone_eq]; rfl

theorem doorView_tonePhaseExpired (s : State) : (tonePhaseExpired s).doorView = s.doorView := by
  unfold tonePhaseExpired; split
  · rfl
  · split <;> rfl

/-! ### The heating unit -/

@[simp] theorem doorView_takeHeatSet (d : HeatSetData) (s : State) : (takeHeatSet d s).doorView = s.doorView := by
  rw [takeHeatSet_eq]; rfl

theorem doorView_energize (s : State) : (energize s).doorView = s.doorView := doorView_ite rfl rfl

theorem doorView_dueArrives (s : State) : (dueArrives s).doorView = s.doorView := by
  unfold dueArrives; split
  · rfl
  · exact doorView_ite rfl (doorView_ite (doorView_energize _) rfl)

theorem doorView_minOffExpired (i : Nat) (s : State) : (minOffExpired i s).doorView = s.doorView := by
  unfold minOffExpired; dsimp only; split
  · exact doorView_ite (doorView_energize _) rfl
  · rfl

theorem doorView_supplySample (v : Nat) (s : State) : (supplySample v s).doorView = s.doorView := by
  have ht (s : State) : (applyThresholds s).doorView = s.doorView := by
    unfold applyThresholds; split <;> exact doorView_ite rfl rfl
  exact doorView_ite (ht _) rfl

theorem doorView_computePass (d : PassData) (s : State) : (computePass d s).2.doorView = s.doorView := by
  obtain ⟨r, g, h⟩ := computePass_eq d s
  rw [h]; rfl

/-! ### The consist unit -/

theorem doorView_returnToUnplaced (s : State) : (returnToUnplaced s).doorView = s.doorView := by
  rw [returnToUnplaced_eq]; rfl

theorem doorView_takeConfirm (d : ConfirmData) (s : State) : (takeConfirm d s).2.doorView = s.doorView := by
  unfold takeConfirm; split_ifs <;> rfl

theorem doorView_actSurvey (f : Frame) (s : State) : (actSurvey f s).2.doorView = s.doorView := by
  unfold actSurvey; split
  · exact doorView_ite rfl (keepsUnits_enterStale s).doorView
  · rfl

theorem doorView_actHeatPass (f : Frame) (s : State) : (actHeatPass f s).2.doorView = s.doorView := by
  unfold actHeatPass; split
  · exact doorView_computePass _ s
  · rfl

theorem doorView_placeByCall (e : End) (f : Frame) (r : LineRate) (s : State) :
    (placeByCall e f r s).doorView = s.doorView := by
  refine doorView_ite rfl (doorView_ite ?_ (doorView_ite ?_ ?_))
  · rw [doorView_sendTail, doorView_returnToUnplaced]
  · rw [doorView_offer, doorView_offer]; rfl
  · rw [doorView_sendTail, doorView_offer]; rfl

/-! ### The allocation sequencer -/

theorem doorView_completeCycle (c : Cycle) (f : Reflected) (s : State) :
    (completeCycle c f s).doorView = s.doorView :=
  (doorView_takeHeatSet _ _).trans (doorView_originate _ _ s)

theorem doorView_sendLevels (fuel : Nat) (c : Cycle) (w : Word) (s : State) :
    (sendLevels fuel c w s).doorView = s.doorView := by
  induction fuel generalizing c w s with
  | zero => rfl
  | succ n ih =>
    unfold sendLevels
    have hp := doorView_computePass ⟨s.seq.number, byteOf c.level, w, 0, 0, byteOf c.demand⟩ s
    cases hcp : computePass ⟨s.seq.number, byteOf c.level, w, 0, 0, byteOf c.demand⟩ s with
    | mk d u =>
      rw [hcp] at hp
      rw [← (hp : u.doorView = s.doorView)]
      exact doorView_ite (doorView_ite (doorView_completeCycle _ _ _) (ih _ _ _)) (doorView_offerEnd _ _ _ _)

theorem doorView_takeReflectedPass (d : PassData) (s : State) : (takeReflectedPass d s).doorView = s.doorView := by
  unfold takeReflectedPass; split
  · exact doorView_ite (doorView_ite (doorView_completeCycle _ _ _) (doorView_sendLevels _ _ _ _)) rfl
  · rfl

theorem doorView_heatingPeriodExpired (s : State) : (heatingPeriodExpired s).doorView = s.doorView :=
  doorView_ite (doorView_sendLevels _ _ _ _) rfl

theorem doorView_passTimedOut (s : State) : (passTimedOut s).doorView = s.doorView := by
  unfold passTimedOut; split <;> rfl

theorem doorView_stopLeading (s : State) : (stopLeading s).doorView = s.doorView := by rw [stopLeading_eq]; rfl

/-! ### The roll call of the lead -/

theorem doorView_enterLeading (s : State) : (enterLeading s).doorView = s.doorView := by
  rw [enterLeading_eq, doorView_sendLevels]; rfl

theorem doorView_failLead (r : Reason) (s : State) : (failLead r s).doorView = s.doorView := doorView_ite rfl rfl

theorem doorView_offerList (l : List Frame) (s : State) : (offerList l s).doorView = s.doorView := by
  induction l generalizing s with
  | nil => rfl
  | cons f rest ih =>
    refine doorView_ite (ih s) (doorView_ite ?_ rfl)
    rw [ih, doorView_offerEnd]

theorem doorView_drainList (s : State) : (drainList s).1.doorView = s.doorView := by
  have hs := doorView_offerList s.lead.sendList s
  unfold drainList; dsimp only
  split
  · split
    · exact (doorView_offerList _ _).trans hs
    · exact hs
  · exact hs

/-- What a drained list leaves to its caller. -/
theorem doorView_of_drained {s t : State} {o : Option ConfirmData} (h : drainList s = (t, o)) :
    t.doorView = s.doorView := by
  rw [← doorView_drainList s, h]

theorem doorView_beginRounds (fuel : Nat) (s : State) : (beginRounds fuel s).doorView = s.doorView := by
  induction fuel generalizing s with
  | zero => exact doorView_failLead _ s
  | succ n ih =>
    unfold beginRounds
    split
    · next t h => exact (doorView_of_drained h : t.doorView = (startRound s).doorView)
    · next t d h =>
      have ht : t.doorView = (startRound s).doorView := doorView_of_drained h
      refine Eq.trans ?_ ht
      exact doorView_ite (doorView_enterLeading t) (doorView_ite (ih _) (doorView_failLead _ t))

theorem doorView_roundFailed (s : State) : (roundFailed s).doorView = s.doorView :=
  doorView_ite (doorView_beginRounds _ _) (doorView_failLead _ s)

theorem doorView_takeReflectedConfirm (hop : Nat) (d : ConfirmData) (s : State) :
    (takeReflectedConfirm hop d s).doorView = s.doorView :=
  doorView_ite (doorView_ite (doorView_enterLeading _) (doorView_roundFailed _)) rfl

theorem doorView_sendListGoesOn (s : State) : (sendListGoesOn s).doorView = s.doorView := by
  refine doorView_ite rfl ?_
  split
  · next h => exact doorView_of_drained h
  · next h => exact (doorView_takeReflectedConfirm _ _ _).trans (doorView_of_drained h)

theorem doorView_enterCalling (e : End) (s : State) : (enterCalling e s).doorView = s.doorView :=
  doorView_ite (doorView_offerEnd _ _ _ _) (doorView_enterLeading _)

theorem doorView_startRollCall (s : State) : (startRollCall s).doorView = s.doorView := by
  unfold startRollCall
  extract_lets s1 l1 s2 s3
  rw [← doorView_stopLeading s]
  split
  · exact doorView_returnToUnplaced _
  all_goals exact doorView_enterCalling _ _

theorem doorView_failAttempt (r : Reason) (s : State) : (failAttempt r s).doorView = s.doorView :=
  doorView_ite (doorView_ite (doorView_offerEnd _ _ _ _) rfl) (doorView_failLead r s)

theorem doorView_takeTail (d : TailData) (s : State) : (takeTail d s).doorView = s.doorView :=
  doorView_ite (doorView_ite (doorView_returnToUnplaced _) (doorView_ite (doorView_failLead _ _)
    (doorView_ite (doorView_beginRounds _ _) (doorView_failAttempt _ _)))) rfl

theorem doorView_windowExpired (s : State) : (windowExpired s).doorView = s.doorView := by
  unfold windowExpired; dsimp only; split
  · exact doorView_failAttempt _ _
  · exact doorView_roundFailed _
  · exact doorView_roundFailed _
  all_goals rfl

/-! ### The lead role, STOP and conflict -/

theorem doorView_leadRollCall (s : State) : (leadRollCall s).doorView = s.doorView :=
  (doorView_startRollCall _).trans (doorView_ite rfl rfl)

theorem doorView_keyActive (s : State) : (keyActive s).doorView = s.doorView :=
  doorView_ite (doorView_leadRollCall s) rfl

theorem doorView_keyInactive (s : State) : (keyInactive s).doorView = s.doorView := by
  by_cases h : s.lead.role = true
  · rw [keyInactive_eq h]; rfl
  · rw [keyInactive, if_neg h]

theorem doorView_stopLead (s : State) : (stopLead s).doorView = s.doorView := by
  unfold stopLead; split
  · exact doorView_failLead _ s
  · exact doorView_failLead _ s
  · exact doorView_failLead _ s
  · exact doorView_stopLeading s
  all_goals rfl

theorem doorView_takeConflict (e : End) (hop : Nat) (s : State) : (takeConflict e hop s).doorView = s.doorView := by
  unfold takeConflict; dsimp only
  rw [doorView_sendTail, doorView_raiseIf, ← doorView_stopLeading s]
  rfl

theorem doorView_takeCall (e : End) (f : Frame) (r : LineRate) (s : State) : (takeCall e f r s).doorView = s.doorView :=
  doorView_ite (doorView_takeConflict e _ s) (doorView_placeByCall e f r s)

/-! ### The survey at the lead -/

theorem doorView_autoRecall (s : State) : (autoRecall s).doorView = s.doorView := doorView_startRollCall _

theorem doorView_takeReflectedSurvey (d : SurveyData) (s : State) :
    (takeReflectedSurvey d s).doorView = s.doorView := by
  have he (t : State) : (enterStale t).doorView = t.doorView := (keepsUnits_enterStale t).doorView
  refine doorView_ite (doorView_ite (doorView_ite ?_ ?_) rfl) rfl
  · exact (doorView_autoRecall _).trans (he _)
  · exact he _

theorem doorView_sendSurvey (s : State) : (sendSurvey s).doorView = s.doorView :=
  doorView_ite (doorView_takeReflectedSurvey _ _) (doorView_offerEnd _ _ _ _)

theorem doorView_countMiss (s : State) : (countMiss s).doorView = s.doorView := by rw [countMiss_eq]; rfl

theorem doorView_surveyPeriodExpired (s : State) : (surveyPeriodExpired s).doorView = s.doorView :=
  doorView_ite (doorView_ite ((doorView_autoRecall _).trans (doorView_countMiss _))
    ((doorView_sendSurvey _).trans (doorView_countMiss _))) (doorView_sendSurvey _)

/-! ### Frames sent on, and REPLYs -/

@[simp] theorem doorView_forwardOutward (f : Frame) (r : LineRate) (s : State) :
    (forwardOutward f r s).doorView = s.doorView := doorView_ite rfl (doorView_offerEnd _ _ _ s)

theorem doorView_sweep (act : Frame → State → Frame × State) (f : Frame) (r : LineRate) (s : State) :
    (sweep act f r s).doorView = (act f s).2.doorView :=
  doorView_ite (doorView_offerEnd _ _ _ _) (doorView_offerEnd _ _ _ _)

@[simp] theorem doorView_reply (src : Source) (code : Byte) (st : Status) (l : List Byte) (s : State) :
    (reply src code st l s).doorView = s.doorView := by
  unfold reply; split
  · exact doorView_offer _ _ _ s
  · rfl

@[simp] theorem doorView_refuse (src : Source) (code : Byte) (st : Status) (s : State) :
    (refuse src code st s).doorView = s.doorView := doorView_reply _ _ _ _ s

theorem doorView_consumeLeadward (f : Frame) (r : LineRate) (s : State) :
    (consumeLeadward f r s).doorView = s.doorView := by
  unfold consumeLeadward; split
  · exact doorView_ite rfl rfl
  · exact doorView_takeTail _ s
  · exact doorView_takeReflectedConfirm _ _ s
  · exact doorView_takeReflectedSurvey _ s
  · exact doorView_takeReflectedPass _ s
  · exact doorView_offer _ _ _ s
  all_goals rfl

end Sys2Proof.Machine
end

section
/-! A door channel that takes a new value, and what a write of its side's leaf count makes of it (R109). -/

namespace Sys2Proof.Machine

/-- `t` is `s` with channel `c` at `ch`, and where `q` holds exactly what a FAULT so entered reports has been raised
(R123). -/
structure MovesTo (q : Prop) (c : Side) (ch : Channel) (s t : State) : Prop where
  sets : ∃ evs, t = { s.setChannel c ch with events := evs }
  reports : q → t = channelMoves c ch s

namespace MovesTo

variable {q : Prop} {c : Side} {ch : Channel} {s t : State}

theorem of_moves (h : t = channelMoves c ch s) : MovesTo q c ch s t :=
  ⟨h ▸ raiseIf_eq _ _ _, fun _ => h⟩

theorem self (s : State) : MovesTo q c (s.channel c) s s := of_moves (channelMoves_self c s).symm

theorem ite {p : Prop} [Decidable p] {a b : Channel} {u : State} (ha : p → MovesTo q c a s t)
    (hb : ¬ p → MovesTo q c b s u) : MovesTo q c (if p then a else b) s (if p then t else u) := by
  split
  · exact ha ‹_›
  · exact hb ‹_›

theorem channel (h : MovesTo q c ch s t) : t.channel c = ch := by
  obtain ⟨evs, rfl⟩ := h.sets
  exact channel_setChannel s c ch

theorem channel_ne (h : MovesTo q c ch s t) {c' : Side} (hc : c' ≠ c) : t.channel c' = s.channel c' := by
  obtain ⟨evs, rfl⟩ := h.sets
  exact channel_setChannel_ne s ch hc

theorem input (h : MovesTo q c ch s t) (i : Input) : t.input i = s.input i := by
  obtain ⟨evs, rfl⟩ := h.sets
  unfold State.input
  rw [setChannel_inputs]

theorem leafCount (h : MovesTo q c ch s t) (c' : Side) : t.leafCount c' = s.leafCount c' := by
  obtain ⟨evs, rfl⟩ := h.sets
  unfold State.leafCount State.itemN State.item
  rw [setChannel_items]

end MovesTo

theorem enterLocked_movesTo (q : Prop) (c : Side) (s : State) : MovesTo q c (s.channel c).inLocked s (enterLocked c s) :=
  .of_moves (enterLocked_moves c s)

theorem enterFault_movesTo (c : Side) (cause : FaultCause) (s : State) :
    MovesTo ((s.channel c).state ≠ .fault ∨ (s.channel c).hold = true) c ((s.channel c).inFault cause) s
      (enterFault c cause s) :=
  ⟨⟨_, rfl⟩, enterFault_moves c s cause⟩

theorem leaveIsolated_movesTo (c : Side) (s : State) :
    MovesTo ((s.channel c).state = .isolated) c (returnedChannel c s) s (leaveIsolated c s) := by
  refine .ite (fun _ => enterLocked_movesTo _ c s) fun _ => ?_
  obtain ⟨hsets, hreports⟩ := enterFault_movesTo c .isolateRemoved s
  exact ⟨hsets, fun h => hreports (.inl (by rw [h]; decide))⟩

/-! ### A write of the leaf count (R109) -/

/-- The channel of a side whose leaf count stays above 0 and has changed, outside the settling hold. -/
def recountedChannel (c : Side) (s : State) : Channel :=
  if (s.channel c).state = .locked ∧ s.leafOpen c = true then (s.channel c).inFault .leafOpened
  else if (s.channel c).state = .closing ∧ s.allClosed c = true then (s.channel c).inLocked
  else s.channel c

/-- The channel as a write of its side's leaf count leaves it, `old` being the count before and `s` holding the new
one. -/
def writtenChannel (c : Side) (old : Nat) (s : State) : Channel :=
  if s.leafCount c = 0 then
    { (s.channel c).inIsolated with cause := if (s.channel c).hold then .none else (s.channel c).cause }
  else if old = 0 then
    (if s.channelSettled c = false then ⟨.fault, true, none, 0, .settling⟩
     else if s.active (.iso c) = true then s.channel c
     else returnedChannel c s)
  else if s.leafCount c = old then s.channel c
  else if (s.channel c).hold = true then
    (if s.channelSettled c = true then heldChannel c s else s.channel c)
  else recountedChannel c s

theorem tryEndHold_movesTo (q : Prop) (c : Side) (s : State) (h : (s.channel c).hold = true) :
    MovesTo q c (if s.channelSettled c = true then heldChannel c s else s.channel c) s (tryEndHold c s) := by
  refine .of_moves ?_
  rw [tryEndHold_moves, h]
  simp only [true_and]

/-- The settling hold entered reports no fault (R109, R123). -/
theorem enterHold_movesTo (q : Prop) (c : Side) (s : State) :
    MovesTo q c ⟨.fault, true, none, 0, .settling⟩ s (enterHold c s) := by
  refine .of_moves ?_
  simp [channelMoves, enterHold, raiseIf]

theorem isolatedByCount_movesTo (q : Prop) (c : Side) (s : State) :
    MovesTo q c { (s.channel c).inIsolated with cause := if (s.channel c).hold then .none else (s.channel c).cause } s
      (enterIsolated c (if (s.channel c).hold then clearCause c s else s)) := by
  refine .of_moves ?_
  rw [channelMoves_of_ne c s (by simp [Channel.inIsolated])]
  split <;> cases c <;> rfl

/-- A write of the leaf count moves the channel of its side, and that channel alone. Where a count of 0 has left the channel
ISOLATED a FAULT that it enters is one newly entered. -/
theorem leafCountWritten_movesTo (c : Side) (old : Nat) (s : State) :
    MovesTo (old = 0 → (s.channel c).state = .isolated) c (writtenChannel c old s) s (leafCountWritten c old s) := by
  refine .ite (fun _ => isolatedByCount_movesTo _ c s) fun _ =>
    .ite (fun h0 => .ite (fun _ => enterHold_movesTo _ c s) fun _ => .ite (fun _ => .self s) fun _ => ?_) fun _ =>
      .ite (fun _ => .self s) fun _ => .ite (fun h => tryEndHold_movesTo _ c s h) fun _ => ?_
  · obtain ⟨hsets, hreports⟩ := leaveIsolated_movesTo c s
    exact ⟨hsets, fun h => hreports (h h0)⟩
  · unfold recountedChannel
    cases hst : (s.channel c).state
    case locked =>
      simp only [true_and, reduceCtorEq, false_and, if_false]
      obtain ⟨hsets, hreports⟩ := enterFault_movesTo c .leafOpened s
      exact .ite (fun _ => ⟨hsets, fun _ => hreports (.inl (by rw [hst]; decide))⟩) fun _ => .self s
    case closing =>
      simp only [true_and, reduceCtorEq, false_and, if_false]
      exact .ite (fun _ => enterLocked_movesTo _ c s) fun _ => .self s
    all_goals
      simp only [reduceCtorEq, false_and, if_false]
      exact .self s

end Sys2Proof.Machine
end

section
/-! Every step keeps released doors at standstill, the isolate inputs of the channels in use inactive, and a side without
leaves ISOLATED (R108, R109, R110, R119, R121, R122): the invariants side by side, each as one predicate on the channel. -/

namespace Sys2Proof.Machine

/-! ### The invariants on one channel -/

/-- A channel as the invariants ask, beside its side's leaf count and the filtered levels of ZSP and of its isolate input.
Only where `p` holds does a side without leaves have to be ISOLATED: the door invariant is kept without it. -/
structure SideGood (p : Prop) (leaves : Nat) (zsp iso : Option Bool) (ch : Channel) : Prop where
  standstill : ch.state = .released → zsp = some true
  isolate : ch.state ≠ .isolated → ch.hold = false → iso = some false
  hold : ch.hold = true → ch.state = .fault
  leafless : p → leaves = 0 → ch.state = .isolated

namespace SideGood

variable {p : Prop} {n m : Nat} {z i : Option Bool} {ch ch' : Channel}

/-- Only a FAULT is under the settling hold. -/
theorem unheld (h : SideGood p n z i ch) (hst : ch.state ≠ .fault) : ch.hold = false := by
  cases hh : ch.hold with
  | false => rfl
  | true => exact absurd (h.hold hh) hst

/-- A channel out of ISOLATED has leaves. -/
theorem hasLeaves (h : SideGood p n z i ch) (hst : ch.state ≠ .isolated) (hp : p) : n ≠ 0 :=
  fun h0 => hst (h.leafless hp h0)

theorem of_isolated (hst : ch.state = .isolated) (hh : ch.hold = false) : SideGood p n z i ch where
  standstill hr := by rw [hst] at hr; cases hr
  isolate hn := absurd hst hn
  hold ht := by rw [hh] at ht; cases ht
  leafless _ _ := hst

theorem of_hold (hst : ch.state = .fault) (hh : ch.hold = true) (hn : p → n ≠ 0) : SideGood p n z i ch where
  standstill hr := by rw [hst] at hr; cases hr
  isolate _ hf := by rw [hh] at hf; cases hf
  hold _ := hst
  leafless hp h0 := absurd h0 (hn hp)

/-- With its isolate input inactive and leaves on its side a channel may stand anywhere outside the hold, but in RELEASED at
standstill alone. -/
theorem of_inactive (hi : i = some false) (hn : p → n ≠ 0) (hh : ch.hold = false)
    (hr : ch.state = .released → z = some true) : SideGood p n z i ch where
  standstill := hr
  isolate _ _ := hi
  hold ht := by rw [hh] at ht; cases ht
  leafless hp h0 := absurd h0 (hn hp)

/-- A channel in use moves on outside the hold. -/
theorem moves (h : SideGood p n z i ch) (h1 : ch.state ≠ .isolated) (h2 : ch.hold = false) (hh : ch'.hold = false)
    (hr : ch'.state = .released → z = some true) : SideGood p n z i ch' :=
  of_inactive (h.isolate h1 h2) (h.hasLeaves h1) hh hr

/-- The leaf count is read at 0 alone. -/
theorem recounted (h : SideGood p n z i ch) (hm : m ≠ 0) : SideGood p m z i ch :=
  ⟨h.standstill, h.isolate, h.hold, fun _ h0 => absurd h0 hm⟩

end SideGood

/-! ### The invariants on a state -/

/-- The invariants on the channel of side `c`. -/
def State.sideGood (p : Prop) (s : State) (c : Side) : Prop :=
  SideGood p (s.leafCount c) (s.input .zsp).level (s.input (.iso c)).level (s.channel c)

def State.doorsGood (p : Prop) (s : State) : Prop := ∀ c, s.sideGood p c

theorem doorsGood_iff (p : Prop) (s : State) : s.doorsGood p ↔ s.doorInv ∧ (p → s.leafInv) := by
  have ha (i : Input) : s.active i = true ↔ (s.input i).level = some true := by simp [State.active]
  have hi (i : Input) : s.inactive i = true ↔ (s.input i).level = some false := by simp [State.inactive]
  simp only [State.doorInv, ha, hi]
  constructor
  · exact fun h => ⟨fun c => ⟨(h c).standstill, (h c).isolate, (h c).hold⟩, fun hp c => (h c).leafless hp⟩
  · intro ⟨h, hl⟩ c
    obtain ⟨hz, hiso, hhold⟩ := h c
    exact ⟨hz, hiso, hhold, fun hp => hl hp c⟩

section good

variable {p : Prop} {s t : State} {c : Side}

theorem doorsGood_of_view (e : t.doorView = s.doorView) (h : s.doorsGood p) : t.doorsGood p := by
  simp only [State.doorView, Prod.mk.injEq] at e
  obtain ⟨ha, hb, hi, hm⟩ := e
  intro c
  have hc := h c
  have hch : t.channel c = s.channel c := by cases c <;> assumption
  unfold State.sideGood State.leafCount State.itemN State.item State.input at hc ⊢
  rwa [hi, hm, hch]

/-- A choice between two states that are both good. The proofs below follow the choices of each definition with it, in the
definition's order. -/
theorem doorsGood_ite {q : Prop} [Decidable q] {a b : State} (ha : q → a.doorsGood p) (hb : ¬ q → b.doorsGood p) :
    (if q then a else b).doorsGood p := by
  split
  · exact ha ‹_›
  · exact hb ‹_›

/-- The side that a move leaves alone stays good. -/
theorem MovesTo.sideGood_ne {q : Prop} {ch : Channel} {c' : Side} (hm : MovesTo q c ch s t) (hc : c' ≠ c)
    (h : s.sideGood p c') : t.sideGood p c' := by
  unfold State.sideGood at *
  rwa [hm.leafCount, hm.input, hm.input, hm.channel_ne hc]

/-- One channel moved: the invariants are asked of its new value, and of the other side as it was. -/
theorem movesTo_doorsGood {q : Prop} {ch : Channel} (hm : MovesTo q c ch s t) (h : ∀ c', c' ≠ c → s.sideGood p c')
    (hc : SideGood p (s.leafCount c) (s.input .zsp).level (s.input (.iso c)).level ch) : t.doorsGood p := by
  intro c'
  by_cases e : c' = c
  · subst e
    unfold State.sideGood
    rwa [hm.leafCount, hm.input, hm.input, hm.channel]
  · exact hm.sideGood_ne e (h c' e)

theorem setChannel_doorsGood {ch : Channel} (h : s.doorsGood p)
    (hc : SideGood p (s.leafCount c) (s.input .zsp).level (s.input (.iso c)).level ch) :
    (s.setChannel c ch).doorsGood p :=
  movesTo_doorsGood (q := False) ⟨⟨_, rfl⟩, False.elim⟩ (fun c' _ => h c') hc

theorem channelMoves_doorsGood {ch : Channel} (h : s.doorsGood p)
    (hc : SideGood p (s.leafCount c) (s.input .zsp).level (s.input (.iso c)).level ch) :
    (channelMoves c ch s).doorsGood p :=
  movesTo_doorsGood (q := True) (.of_moves rfl) (fun c' _ => h c') hc

/-! ### Door actions and timers -/

theorem enterFault_doorsGood {cause : FaultCause} (h : s.doorsGood p) (h1 : (s.channel c).state ≠ .isolated)
    (h2 : (s.channel c).hold = false) : (enterFault c cause s).doorsGood p :=
  movesTo_doorsGood (enterFault_movesTo c cause s) (fun c' _ => h c') ((h c).moves h1 h2 rfl (by simp [Channel.inFault]))

theorem enterClosing_doorsGood (h : s.doorsGood p) (h1 : (s.channel c).state ≠ .isolated)
    (h2 : (s.channel c).hold = false) : (enterClosing c s).doorsGood p := by
  refine doorsGood_ite (fun _ => setChannel_doorsGood h ?_) fun _ => setChannel_doorsGood h ?_
  · exact (h c).moves h1 h2 rfl (by simp)
  · exact (h c).moves h1 h2 h2 (by simp)

/-- The close timer's expiry leaves CLOSING, a state in use (R117). -/
theorem closeExpired_doorsGood (h : s.doorsGood p) (h1 : (s.channel c).state ≠ .isolated)
    (h2 : (s.channel c).hold = false) : (closeExpired c s).doorsGood p := by
  refine doorsGood_ite (fun _ => ?_) fun _ => enterFault_doorsGood h h1 h2
  exact doorsGood_of_view rfl (setChannel_doorsGood h ((h c).moves h1 h2 h2 (by simp)))

/-- A release is accepted from a state in use, at standstill (R110). -/
theorem releaseChannel_doorsGood (h : s.doorsGood p) : (releaseChannel c s).2.doorsGood p := by
  rcases releaseChannel_cases c s with ⟨e, hz, -, hf, hi⟩ | e <;> rw [e]
  · have hh := (h c).unheld hf
    exact setChannel_doorsGood h ((h c).moves hi hh hh fun _ => by simpa [State.active] using hz)
  · exact h

/-- A CLOSE and a DOOR_RESET take a channel out of a FAULT outside the hold, or out of RELEASED (R112, R113). -/
theorem warnedBy_good (a : Action) (h : s.doorsGood p) :
    SideGood p (s.leafCount c) (s.input .zsp).level (s.input (.iso c)).level (s.warnedBy a c) := by
  unfold State.warnedBy
  split
  · next hf =>
    obtain ⟨hst, hh⟩ : (s.channel c).state = .fault ∧ (s.channel c).hold = false := by simpa [State.doorFault] using hf
    exact (h c).moves (by rw [hst]; decide) hh hh (by simp)
  · split
    · next hr =>
      have hh := (h c).unheld (by rw [hr.2]; decide)
      exact (h c).moves (by rw [hr.2]; decide) hh hh (by simp)
    · exact h c

/-- A door action that keeps the invariants at each channel keeps them at a set of channels. -/
theorem handDoors_doorsGood {act : Side → State → SideResult × State} (d : OrderData) (k : Nat) (a : Action)
    (set : Side → Bool) (hact : ∀ c s, s.doorsGood p → (act c s).2.doorsGood p) (h : s.doorsGood p) :
    (handDoors d k a act set s).doorsGood p := by
  have hs (c : Side) (s : State) (h : s.doorsGood p) : (handSide act set c s).2.doorsGood p := by
    unfold handSide; split
    · exact hact c s h
    · exact h
  rw [handDoors_eq]
  exact doorsGood_of_view rfl (hs .b _ (hs .a s h))

theorem takeOrder_doorsGood (d : OrderData) (h : s.doorsGood p) : (takeOrder d s).doorsGood p := by
  have hb (k : Nat) (a : Action) (o : OrderOutcome) : (recordBare d k a o s).doorsGood p := doorsGood_of_view rfl h
  unfold takeOrder; split
  · exact doorsGood_of_view rfl h
  · split
    · exact hb _ _ _
    · exact doorsGood_ite (fun _ => hb _ _ _) fun _ => doorsGood_ite
        (fun _ => handDoors_doorsGood d _ _ _ (fun _ _ => releaseChannel_doorsGood) h) fun _ => hb _ _ _
    · refine doorsGood_ite (fun _ => handDoors_doorsGood d _ _ _ (fun c s h => ?_) h) fun _ => hb _ _ _
      rw [closeChannel_eq]
      exact setChannel_doorsGood h (warnedBy_good .close h)
    · refine doorsGood_ite (fun _ => handDoors_doorsGood d _ _ _ (fun c s h => ?_) h) fun _ => hb _ _ _
      rw [doorResetChannel_eq]
      exact setChannel_doorsGood h (warnedBy_good .doorReset h)
    · exact doorsGood_of_view rfl h
    · exact doorsGood_of_view rfl h

/-! ### Leaves and the settling hold -/

/-- A settled isolate input that is not active is inactive (R173). -/
theorem iso_inactive (hs : s.channelSettled c = true) (ha : s.active (.iso c) ≠ true) :
    (s.input (.iso c)).level = some false := by
  obtain ⟨hset, -⟩ := channelSettled_iff.1 hs
  unfold State.settled at hset
  unfold State.active at ha
  cases hl : (s.input (.iso c)).level with
  | none => simp [hl] at hset
  | some b => cases b <;> simp_all

theorem heldChannel_good (z : Option Bool) (hs : s.channelSettled c = true) (hn : p → s.leafCount c ≠ 0) :
    SideGood p (s.leafCount c) z (s.input (.iso c)).level (heldChannel c s) := by
  unfold heldChannel; split
  · exact .of_isolated rfl rfl
  · next ha =>
    have hi := iso_inactive hs ha
    split
    · exact .of_inactive hi hn rfl (by simp [Channel.inLocked])
    · exact .of_inactive hi hn rfl (by simp [Channel.inFault])

theorem returnedChannel_good (z : Option Bool) (hi : (s.input (.iso c)).level = some false)
    (hn : p → s.leafCount c ≠ 0) :
    SideGood p (s.leafCount c) z (s.input (.iso c)).level (returnedChannel c s) := by
  unfold returnedChannel; split
  · exact .of_inactive hi hn rfl (by simp [Channel.inLocked])
  · exact .of_inactive hi hn rfl (by simp [Channel.inFault])

theorem tryEndHold_doorsGood (h : s.doorsGood p) : (tryEndHold c s).doorsGood p := by
  rw [tryEndHold_moves]
  refine channelMoves_doorsGood h ?_
  split
  · next hc => exact heldChannel_good _ hc.2 ((h c).hasLeaves (by rw [(h c).hold hc.1]; decide))
  · exact h c

theorem leafCloses_doorsGood (n : Fin 4) (h : s.doorsGood p) : (leafCloses c n s).doorsGood p := by
  rw [leafCloses_moves]
  refine channelMoves_doorsGood h ?_
  split
  · next hc =>
    obtain ⟨-, hst, -⟩ := hc
    exact (h c).moves (by rw [hst]; decide) ((h c).unheld (by rw [hst]; decide)) rfl (by simp [Channel.inLocked])
  · exact h c

theorem leafOpens_doorsGood (n : Fin 4) (h : s.doorsGood p) : (leafOpens c n s).doorsGood p := by
  rw [leafOpens_moves]
  refine channelMoves_doorsGood h ?_
  split
  · next hc =>
    obtain ⟨-, hst⟩ := hc
    exact (h c).moves (by rw [hst]; decide) ((h c).unheld (by rw [hst]; decide)) rfl (by simp [Channel.inFault])
  · exact h c

theorem leafSettled_doorsGood (n : Fin 4) (level : Bool) (h : s.doorsGood p) :
    (leafSettled c n level s).doorsGood p :=
  doorsGood_ite (fun _ => tryEndHold_doorsGood h) fun _ =>
    doorsGood_ite (fun _ => leafCloses_doorsGood n h) fun _ => leafOpens_doorsGood n h

/-- An isolate input that becomes inactive takes its channel out of ISOLATED where the side has leaves (R122). -/
theorem isolateOff_doorsGood (h : s.doorsGood p) (hi : (s.input (.iso c)).level = some false) :
    (isolateOff c s).doorsGood p := by
  rw [isolateOff_moves]
  refine channelMoves_doorsGood h ?_
  split
  · next hc => exact returnedChannel_good _ hi fun _ => hc.2
  · exact h c

end good

/-! ### Inputs -/

section inputs

variable {p : Prop} {i : Input} {s : State}

theorem inputFiltered_self (i : Input) (s : State) :
    (inputFiltered i s).input i = ⟨(s.input i).raw, some (s.input i).raw, none⟩ := input_setInput s i _

theorem inputFiltered_ne {j : Input} (h : j ≠ i) : (inputFiltered i s).input j = s.input j := input_setInput_ne s _ h

/-- The channels as an input is filtered, before any unit is told of it: good, but where ZSP is lost or an isolate input
becomes active. -/
theorem inputFiltered_doorsGood (h : s.doorsGood p)
    (hz : i = .zsp → (s.input i).level = some true → (s.input i).raw = true)
    (hi : ∀ c, i = .iso c → (s.input i).level = some false → (s.input i).raw = false) :
    (inputFiltered i s).doorsGood p := by
  intro c
  obtain ⟨hstand, hiso, hhold, hleaf⟩ := h c
  refine ⟨fun hr => ?_, fun h1 h2 => ?_, hhold, hleaf⟩
  · have hlevel := hstand hr
    by_cases e : i = .zsp
    · subst e; rw [inputFiltered_self, hz rfl hlevel]
    · rw [inputFiltered_ne (Ne.symm e), hlevel]
  · have hlevel := hiso h1 h2
    by_cases e : i = .iso c
    · subst e; rw [inputFiltered_self, hi c rfl hlevel]
    · rw [inputFiltered_ne (Ne.symm e), hlevel]

/-- Standstill lost: no channel stays in RELEASED (R119). -/
theorem zspLost_doorsGood (h : s.doorsGood p) : (zspLost (inputFiltered .zsp s)).doorsGood p := by
  intro c
  have ho := onlyDoors_zspLost (inputFiltered .zsp s)
  unfold State.sideGood State.leafCount State.itemN State.item
  rw [zspLost_channel, ho.items, ho.input, ho.input, inputFiltered_ne (j := .iso c) (by simp)]
  obtain ⟨-, hiso, hhold, hleaf⟩ := h c
  show SideGood p (s.leafCount c) _ _ _
  have hch : (inputFiltered .zsp s).channel c = s.channel c := by cases c <;> rfl
  unfold warnedChannel
  rw [hch]
  split
  · next hr =>
    have hh := (h c).unheld (by rw [hr]; decide)
    exact .of_inactive (hiso (by rw [hr]; decide) hh) ((h c).hasLeaves (by rw [hr]; decide)) hh (by simp)
  · next hr => exact ⟨fun he => absurd he hr, hiso, hhold, hleaf⟩

/-- An isolate input that becomes active takes its channel into ISOLATED, but under the hold (R121). -/
theorem isolateOn_doorsGood {c : Side} (h : s.doorsGood p) :
    (isolateOn c (inputFiltered (.iso c) s)).doorsGood p := by
  have hch (c' : Side) : (inputFiltered (.iso c) s).channel c' = s.channel c' := by cases c' <;> rfl
  have hne (c' : Side) (hc : c' ≠ c) : (inputFiltered (.iso c) s).sideGood p c' := by
    have hc' := h c'
    unfold State.sideGood at hc' ⊢
    rwa [hch, inputFiltered_ne (by simp), inputFiltered_ne (by simp [hc])]
  unfold isolateOn
  rw [hch]
  split
  · next hh =>
    refine movesTo_doorsGood (q := False) (.self _) hne ?_
    rw [hch]
    exact .of_hold ((h c).hold hh) hh ((h c).hasLeaves (by rw [(h c).hold hh]; decide))
  · exact movesTo_doorsGood (q := False) (.of_moves (enterIsolated_moves c _)) hne (.of_isolated rfl rfl)

theorem compareEnd_doorsGood {e : End} (h : s.doorsGood p) : (compareEnd e s).doorsGood p :=
  doorsGood_of_view (keepsUnits_compareEnd e s).doorView h

/-- The first settling of an input (R108, R173). -/
theorem inputSettled_doorsGood (h : s.doorsGood p) (level : Bool) : (inputSettled i level s).doorsGood p := by
  cases i with
  | cpl e => exact compareEnd_doorsGood h
  | key => exact doorsGood_ite (fun _ => doorsGood_of_view (doorView_keyActive s) h) fun _ => h
  | iso c => exact tryEndHold_doorsGood h
  | leaf c n => exact leafSettled_doorsGood n level h
  | zsp => exact h
  | th => exact h

/-- A change of a filtered level (R75, R116, R119 to R122). -/
theorem inputChanged_doorsGood (h : s.doorsGood p) (hl : (s.input i).level = some (!(s.input i).raw)) :
    (inputChanged i (s.input i).raw (inputFiltered i s)).doorsGood p := by
  have hquiet (hn : i ≠ .zsp) (hn' : ∀ c, i ≠ .iso c) : (inputFiltered i s).doorsGood p :=
    inputFiltered_doorsGood h (fun e => absurd e hn) fun c e => absurd e (hn' c)
  cases i with
  | cpl e => exact compareEnd_doorsGood (hquiet (by simp) (by simp))
  | key =>
    have hg := hquiet (by simp) (by simp)
    exact doorsGood_ite (fun _ => doorsGood_of_view (doorView_keyActive _) hg)
      fun _ => doorsGood_of_view (doorView_keyInactive _) hg
  | zsp =>
    exact doorsGood_ite (fun hr => inputFiltered_doorsGood h (fun _ _ => hr) (by simp)) fun _ => zspLost_doorsGood h
  | iso c =>
    refine doorsGood_ite (fun _ => isolateOn_doorsGood h) fun hr => ?_
    have hraw : (s.input (.iso c)).raw = false := by simpa using hr
    exact isolateOff_doorsGood (inputFiltered_doorsGood h (by simp) fun _ _ _ => hraw)
      (by rw [inputFiltered_self, hraw])
  | leaf c n =>
    have hg := hquiet (by simp) (by simp)
    exact doorsGood_ite (fun _ => leafCloses_doorsGood n hg) fun _ => leafOpens_doorsGood n hg
  | th => exact hquiet (by simp) (by simp)

theorem stabilityExpired_doorsGood (h : s.doorsGood p) : (stabilityExpired i s).doorsGood p := by
  show (match (s.input i).level with
    | none => inputSettled i (s.input i).raw (inputFiltered i s)
    | some f => if f = (s.input i).raw then inputFiltered i s
        else inputChanged i (s.input i).raw (inputFiltered i s)).doorsGood p
  split
  · next hl =>
    exact inputSettled_doorsGood (inputFiltered_doorsGood h (by simp [hl]) (by simp [hl])) _
  · next f hl =>
    refine doorsGood_ite (fun hf => ?_) fun hf => inputChanged_doorsGood h ?_
    · rw [hf] at hl
      exact inputFiltered_doorsGood h (fun _ e => by simpa [hl] using e) fun _ _ e => by simpa [hl] using e
    · rw [hl]; cases f <;> cases hr : (s.input i).raw <;> simp_all

theorem rawEdgeAt_doorsGood (a : Bool) (h : s.doorsGood p) : (rawEdgeAt i a s).doorsGood p := by
  intro c
  unfold State.sideGood
  rw [rawEdgeAt_level, rawEdgeAt_level, rawEdgeAt_eq]
  exact h c

end inputs

end Sys2Proof.Machine
end

section
/-! Every command keeps the door invariants: WRITE ITEMS and resets, which move items and channels together, and the frames
that may bring them (R108, R109, R183, R189). -/

namespace Sys2Proof.Machine

/-! ### Items and leaf counts (R109, R183) -/

/-- Values written from index `i` on leave the entries outside their range alone. -/
theorem getD_setFrom_outside {α : Type} {m : Nat} (t : Tab α m) (i k : Nat) (vs : List α) (d : α)
    (h : k < i ∨ i + vs.length ≤ k) : (t.setFrom i vs).getD k d = t.getD k d := by
  induction vs generalizing t i with
  | nil => rfl
  | cons v vs ih =>
    rw [List.length_cons] at h
    have hne : i ≠ k := by omega
    refine (ih (t.set i v) (i + 1) (by omega)).trans ?_
    simp [Tab.getD, Tab.set, List.getElem?_set_ne hne]

section items

variable {p : Prop} {s : State} {c : Side}

/-- The channel as a write of its leaf count leaves it is as the new count asks. -/
theorem writtenChannel_good {old : Nat} {z : Option Bool}
    (h : SideGood p old z (s.input (.iso c)).level (s.channel c)) :
    SideGood p (s.leafCount c) z (s.input (.iso c)).level (writtenChannel c old s) := by
  unfold writtenChannel
  split
  · exact .of_isolated rfl rfl
  next hn =>
  have hsame := h.recounted hn
  split
  · split
    · exact .of_hold rfl rfl fun _ => hn
    next hset =>
    split
    · exact hsame
    · next ha => exact returnedChannel_good z (iso_inactive (by simpa using hset) ha) fun _ => hn
  split
  · exact hsame
  split
  · split
    · next hset => exact heldChannel_good z hset fun _ => hn
    · exact hsame
  next hhold =>
  have hh : (s.channel c).hold = false := by simpa using hhold
  unfold recountedChannel
  split
  · next hst => exact hsame.moves (by rw [hst.1]; decide) hh rfl (by simp [Channel.inFault])
  · split
    · next hst => exact hsame.moves (by rw [hst.1]; decide) hh rfl (by simp [Channel.inLocked])
    · exact hsame

theorem writeLeafCount_movesTo (start count : Nat) (old : State) (c : Side) (s : State) :
    MovesTo False c (if coversItem start count (Item.leafCount c) = true then writtenChannel c (old.leafCount c) s
      else s.channel c) s (writeLeafCount start count old c s) :=
  .ite (fun _ => ⟨(leafCountWritten_movesTo c _ s).sets, False.elim⟩) fun _ => .self s

/-- The effect of a write on a side that was good with the count before. -/
theorem writeLeafCount_sideGood {start count : Nat} {old : State}
    (h : SideGood p (old.leafCount c) (s.input .zsp).level (s.input (.iso c)).level (s.channel c))
    (hn : coversItem start count (Item.leafCount c) ≠ true → s.leafCount c = old.leafCount c) :
    (writeLeafCount start count old c s).sideGood p c := by
  have hm := writeLeafCount_movesTo start count old c s
  unfold State.sideGood
  rw [hm.leafCount, hm.input, hm.input, hm.channel]
  split
  · exact writtenChannel_good h
  · next hc => rwa [hn hc]

theorem doorView_raiseNoticed (start count : Nat) (s : State) :
    (raiseNoticed start count s).doorView = s.doorView := by
  simp [raiseNoticed, conditionEvents]

theorem storeItems_doorsGood (start : Nat) (vs : List Word) (h : s.doorsGood p) :
    (storeItems start vs s).doorsGood p := by
  obtain ⟨u, hu⟩ : ∃ u : State, u = { s with items := s.items.setFrom start vs } := ⟨_, rfl⟩
  have hin (i : Input) : u.input i = s.input i := by rw [hu]; rfl
  have hch (c : Side) : u.channel c = s.channel c := by rw [hu]; cases c <;> rfl
  have hcount (c : Side) (hc : coversItem start vs.length (Item.leafCount c) ≠ true) :
      u.leafCount c = s.leafCount c := by
    have hout : Item.leafCount c < start ∨ start + vs.length ≤ Item.leafCount c := by
      have hnot : ¬ (start ≤ Item.leafCount c ∧ Item.leafCount c < start + vs.length) := by simpa [coversItem] using hc
      omega
    unfold State.leafCount State.itemN State.item
    rw [hu, ← getD_setFrom_outside s.items start _ vs 0 hout]
  have hside (c : Side) :
      SideGood p (s.leafCount c) (u.input .zsp).level (u.input (.iso c)).level (u.channel c) := by
    rw [hin, hin, hch]; exact h c
  have ha := writeLeafCount_movesTo start vs.length s .a u
  have hb := writeLeafCount_movesTo start vs.length s .b (writeLeafCount start vs.length s .a u)
  have hsets : storeItems start vs s = raiseNoticed start vs.length
      (writeLeafCount start vs.length s .b (writeLeafCount start vs.length s .a u)) := by rw [hu]; rfl
  rw [hsets]
  refine doorsGood_of_view (doorView_raiseNoticed _ _ _) fun c => ?_
  cases c with
  | a => exact hb.sideGood_ne (by decide) (writeLeafCount_sideGood (hside .a) (hcount .a))
  | b =>
    refine writeLeafCount_sideGood ?_ fun hc => (ha.leafCount .b).trans (hcount .b hc)
    rw [ha.input, ha.input, ha.channel_ne (by decide)]
    exact hside .b

/-! ### Resets (R189) -/

theorem Channel.reset_good (n : Nat) (z i : Option Bool) : SideGood p n z i (Channel.reset n) := by
  unfold Channel.reset; split
  · exact .of_isolated rfl rfl
  · next hn => exact .of_hold rfl rfl fun _ => hn

theorem resetBegin_doorsGood (cause : ResetCause) (s : State) : (resetBegin cause s).doorsGood p := by
  obtain ⟨⟨hitems, -⟩, -, -, -, -, -, -, -, -, -, -, hdoors, -⟩ := resetBegin_afterReset cause s
  intro c
  have hch : (resetBegin cause s).channel c = Channel.reset ((resetBegin cause s).leafCount c) := by
    unfold State.leafCount State.itemN State.item
    rw [hitems]
    cases c
    · exact congrArg Doors.a hdoors
    · exact congrArg Doors.b hdoors
  unfold State.sideGood
  rw [hch]
  exact Channel.reset_good _ _ _

theorem resetEnd_doorsGood (h : s.doorsGood p) : (resetEnd s).doorsGood p := by
  intro c
  unfold State.sideGood
  rw [resetEnd_input, resetEnd_input]
  exact h c

theorem resetNode_doorsGood (cause : ResetCause) (s : State) : (resetNode cause s).doorsGood p :=
  resetEnd_doorsGood (resetBegin_doorsGood cause s)

theorem pendingReset_doorsGood (h : s.doorsGood p) : (pendingReset s).doorsGood p :=
  doorsGood_ite (fun _ => resetNode_doorsGood _ s) fun _ => h

end items

/-! ### The management responder -/

section respond

variable {p : Prop} {s : State}

theorem reply_doorsGood {src : Source} {code : Byte} {st : Status} {l : List Byte} (h : s.doorsGood p) :
    (reply src code st l s).doorsGood p := doorsGood_of_view (doorView_reply src code st l s) h

theorem refuse_doorsGood {src : Source} {code : Byte} {st : Status} (h : s.doorsGood p) :
    (refuse src code st s).doorsGood p := reply_doorsGood h

theorem answerWriteItems_doorsGood {src : Source} {a n : Byte} {vs : List Word} (h : s.doorsGood p) :
    (answerWriteItems src a n vs s).doorsGood p := by
  refine doorsGood_ite (fun _ => refuse_doorsGood h) fun _ => doorsGood_ite (fun _ => refuse_doorsGood h) fun _ =>
    doorsGood_ite (fun _ => refuse_doorsGood h) fun _ => ?_
  split
  · exact refuse_doorsGood h
  · exact doorsGood_ite (fun _ => reply_doorsGood (storeItems_doorsGood _ _ h)) fun _ => refuse_doorsGood h

/-- Tables 0 and 1 hold nothing of the doors (R101, R139). -/
theorem doorView_answerWriteTable (src : Source) (t a n : Byte) (l : List Byte) (s : State) :
    (answerWriteTable src t a n l s).doorView = s.doorView := by
  refine doorView_ite (by simp) (doorView_ite (by simp) (doorView_ite (by simp) (doorView_ite ?_ ?_)))
  · unfold writeOrders; split
    · exact doorView_reply _ _ _ _ _
    · simp
  · exact doorView_ite (doorView_reply _ _ _ _ _) (by simp)

theorem answerNodeReset_doorsGood {src : Source} (h : s.doorsGood p) : (answerNodeReset src s).doorsGood p := by
  unfold answerNodeReset; split
  · exact doorsGood_ite (fun _ => doorsGood_of_view (keepsUnits_offerQueued _ _ _).doorView h)
      fun _ => resetNode_doorsGood _ s
  · exact h

/-- The lead-control requests leave the doors to the roll call, which leaves them alone (R186). -/
theorem doorView_answerStartRollCall (src : Source) (s : State) :
    (answerStartRollCall src s).doorView = s.doorView :=
  doorView_ite (by simp) (doorView_ite (by simp) ((doorView_leadRollCall _).trans (by simp)))

theorem doorView_answerStop (src : Source) (s : State) : (answerStop src s).doorView = s.doorView :=
  doorView_ite (by simp) (doorView_ite (by simp) (doorView_ite (by simp) ((doorView_stopLead _).trans (by simp))))

theorem execute_doorsGood {src : Source} {l : List Byte} (h : s.doorsGood p) : (execute src l s).doorsGood p := by
  unfold execute; split
  · exact doorsGood_of_view (doorView_ite (by simp) (by simp)) h
  · exact answerWriteItems_doorsGood h
  · exact doorsGood_of_view (doorView_ite (by simp) (by simp)) h
  · exact doorsGood_of_view (doorView_answerWriteTable _ _ _ _ _ s) h
  · exact doorsGood_of_view (doorView_ite (by simp) (by simp)) h
  · exact doorsGood_of_view (doorView_reply src 6 .done (eventBytes s.events) { s with events := 0 }) h
  · exact doorsGood_of_view (doorView_ite (doorView_refuse _ _ _ s) rfl) h
  · exact answerNodeReset_doorsGood h
  · exact doorsGood_of_view (doorView_answerStartRollCall src s) h
  · exact doorsGood_of_view (doorView_answerStop src s) h
  · exact doorsGood_of_view (doorView_ite (by simp) (doorView_ite (by simp) (doorView_ite (by simp)
      (doorView_reply src 11 .done [] s)))) h

theorem respond_doorsGood {src : Source} {l : List Byte} (h : s.doorsGood p) : (respond src l s).doorsGood p :=
  doorsGood_ite (fun _ => refuse_doorsGood h) fun _ => doorsGood_ite (fun _ => refuse_doorsGood h) fun _ =>
    doorsGood_ite (fun _ => refuse_doorsGood h) fun _ => execute_doorsGood h

/-! ### The relay engine -/

theorem relayUnplaced_doorsGood {e : End} {f : Frame} {r : LineRate} (h : s.doorsGood p) :
    (relayUnplaced e f r s).doorsGood p := by
  have hp (t : State) (ht : t.doorsGood p) : (passOn e f r t).doorsGood p :=
    doorsGood_of_view (doorView_offer _ f r t) ht
  unfold relayUnplaced; split
  case h_1 => exact doorsGood_ite (fun _ => doorsGood_of_view (doorView_takeCall e f r s) h) fun _ => hp s h
  case h_2 =>
    exact hp _ (doorsGood_ite (fun _ => doorsGood_of_view (doorView_takeHeatSet _ s) h) fun _ => h)
  all_goals exact hp s h

/-- An outward frame: an ORDER and a WRITE ITEMS among those that a unit takes (R27). -/
theorem takeOutward_doorsGood {f : Frame} {r : LineRate} (h : s.doorsGood p) : (takeOutward f r s).doorsGood p := by
  have hs : (handSource f.src s).doorsGood p := doorsGood_of_view (handSource_keepsUnits f.src s).doorView h
  have hf (t : State) (ht : t.doorsGood p) : (forwardOutward f r t).doorsGood p :=
    doorsGood_of_view (doorView_forwardOutward f r t) ht
  unfold takeOutward; dsimp only; split
  · exact hf _ (doorsGood_of_view (takeRoster_keepsUnits _ _).doorView hs)
  · exact hf _ (takeOrder_doorsGood _ hs)
  · exact hf _ (doorsGood_of_view (doorView_takeHeatSet _ _) hs)
  · exact doorsGood_of_view ((doorView_sweep _ f r _).trans (doorView_takeConfirm _ _)) hs
  · exact doorsGood_of_view ((doorView_sweep _ f r _).trans (doorView_actSurvey f _)) hs
  · exact doorsGood_of_view ((doorView_sweep _ f r _).trans (doorView_actHeatPass f _)) hs
  · exact doorsGood_ite (fun _ => respond_doorsGood hs) fun _ => doorsGood_ite (fun _ => hs)
      fun _ => doorsGood_of_view (doorView_offerEnd _ _ r _) hs
  all_goals exact hs

theorem relayPlaced_doorsGood {e : End} {f : Frame} {r : LineRate} (h : s.doorsGood p) :
    (relayPlaced e f r s).doorsGood p := by
  have hl : (takeLeadward f r s).doorView = s.doorView :=
    doorView_ite (doorView_offerEnd _ f r s) (doorView_ite (doorView_consumeLeadward f r s) rfl)
  exact doorsGood_ite (fun _ => h) fun _ =>
    doorsGood_ite (fun _ => doorsGood_of_view (doorView_takeCall e f r s) h) fun _ =>
      doorsGood_ite (fun _ => doorsGood_ite (fun _ => h) fun _ => doorsGood_of_view hl h) fun _ =>
        doorsGood_ite (fun _ => takeOutward_doorsGood h) fun _ => h

theorem relayCabLead_doorsGood {f : Frame} {r : LineRate} (h : s.doorsGood p) : (relayCabLead f r s).doorsGood p := by
  have ho := takeOrder_doorsGood (OrderData.ofPayload f.payload) h
  unfold relayCabLead; dsimp only; split
  case h_1 => exact doorsGood_ite (fun _ => doorsGood_of_view (doorView_offerEnd _ _ r _) ho) fun _ => ho
  case h_2 =>
    exact doorsGood_ite (fun _ => respond_doorsGood h) fun _ =>
      doorsGood_ite (fun _ => doorsGood_of_view (doorView_offerEnd _ _ r s) h) fun _ => h
  all_goals exact h

theorem relay_doorsGood {q : Port} {f : Frame} {r : LineRate} (h : s.doorsGood p) : (relay q f r s).doorsGood p := by
  cases q with
  | line e => exact doorsGood_ite (fun _ => relayPlaced_doorsGood h) fun _ => relayUnplaced_doorsGood h
  | cab =>
    exact doorsGood_ite (fun _ => relayCabLead_doorsGood h) fun _ =>
      doorsGood_ite (fun _ => respond_doorsGood h) fun _ => h

/-! ### The line -/

theorem popHead_doorsGood {q : Port} (h : s.doorsGood p) : (popHead q s).doorsGood p := by
  have hp (u : PortUnit) : (restartIdle q (s.setPort q u)).doorsGood p :=
    doorsGood_of_view ((keepsUnits_setPort s q u).trans (keepsUnits_restartIdle q _)).doorView h
  unfold popHead; dsimp only; split
  · exact doorsGood_ite (fun _ => pendingReset_doorsGood (hp _)) fun _ => hp _
  · exact hp _

theorem sent_doorsGood {q : Port} (h : s.doorsGood p) : (sent q s).doorsGood p := by
  unfold sent; dsimp only; split
  · exact h
  · exact popHead_doorsGood h
  · exact doorsGood_of_view ((keepsUnits_setPort s q _).trans (keepsUnits_restartIdle q _)).doorView h

theorem collide_doorsGood {q : Port} (h : s.doorsGood p) : (collide q s).doorsGood p := by
  unfold collide; dsimp only; split
  · exact h
  · exact doorsGood_of_view
      ((keepsUnits_setPort s q _).trans ((keepsUnits_lineError q _).trans (keepsUnits_restartIdle q _))).doorView h
  · exact doorsGood_ite (fun _ => doorsGood_of_view (keepsUnits_setPort s q _).doorView h)
      fun _ => popHead_doorsGood (doorsGood_of_view (keepsUnits_lineError q s).doorView h)

theorem receive_doorsGood {q : Port} {f : Frame} (h : s.doorsGood p) : (receive q f s).doorsGood p := by
  have hd (next : RxState) : (dropFrame q next s).doorsGood p :=
    doorsGood_of_view (keepsUnits_dropFrame q next s).doorView h
  have hh : (heard q s).doorsGood p := doorsGood_of_view (heard_keepsUnits q s).doorView h
  exact doorsGood_ite (fun _ => h) fun _ => doorsGood_ite (fun _ => hd _) fun _ => doorsGood_ite (fun _ => hd _) fun _ =>
    doorsGood_ite (fun _ => hh) fun _ => relay_doorsGood hh

end respond

/-! ### Every command -/

section exec

variable {p : Prop} {s t : State}

theorem event_doorsGood {f : State → State} (hf : (begin s).doorsGood p → (f (begin s)).doorsGood p)
    (h : s.doorsGood p) (he : event f s = .next t) : t.doorsGood p := by
  cases he
  exact doorsGood_ite (fun _ => h) fun _ => doorsGood_of_view (doorView_finish _) (hf h)

theorem plainEvent_doorsGood {f : State → State} (hf : s.doorsGood p → (f s).doorsGood p) (h : s.doorsGood p)
    (he : plainEvent f s = .next t) : t.doorsGood p := by
  cases he
  exact doorsGood_ite (fun _ => h) fun _ => hf h

/-- An event whose effect leaves channels, inputs and items alone. -/
theorem event_doorsGood_of_view {f : State → State} (hf : ∀ s, (f s).doorView = s.doorView) (h : s.doorsGood p)
    (he : event f s = .next t) : t.doorsGood p := event_doorsGood (doorsGood_of_view (hf _)) h he

/-- A plain event that touches none of the units that the end of an event would settle. -/
theorem plainEvent_doorsGood_of_keeps {f : State → State} (hf : KeepsUnits s (f s)) (h : s.doorsGood p)
    (he : plainEvent f s = .next t) : t.doorsGood p := plainEvent_doorsGood (doorsGood_of_view hf.doorView) h he

theorem doorView_onExpiry {f : State → State} (hf : ∀ s, (f s).doorView = s.doorView) (d : Timer) (s : State) :
    (onExpiry d f s).doorView = s.doorView := by
  cases d with
  | none => rfl
  | some d => exact hf (s.reach d)

/-- A channel timer expires in its own state, which is one in use (R114). -/
theorem onChannelTimer_doorsGood {c : Side} {st : DoorState} {f : State → State}
    (hst : st = .warning ∨ st = .closing ∨ st = .recycle)
    (hf : ∀ u : State, u.doorsGood p → (u.channel c).state ≠ .isolated → (u.channel c).hold = false →
      (f u).doorsGood p)
    (h : s.doorsGood p) : (onChannelTimer c st f s).doorsGood p := by
  refine doorsGood_ite (fun hc => ?_) fun _ => h
  cases (s.channel c).timer with
  | none => exact h
  | some d =>
    have hch : (s.reach d).channel c = s.channel c := by cases c <;> rfl
    refine hf (s.reach d) (doorsGood_of_view rfl h) ?_ ?_ <;> rw [hch]
    · rw [hc]; rcases hst with rfl | rfl | rfl <;> decide
    · exact (h c).unheld (by rw [hc]; rcases hst with rfl | rfl | rfl <;> decide)

theorem exec_doorsGood {i : Instr} (h : s.doorsGood p) (he : exec i s = .next t) : t.doorsGood p := by
  cases ha : i.arriving with
  | some a =>
    obtain ⟨q, f⟩ := a
    rcases exec_arriving ha s with ⟨-, e⟩ | e <;> rw [e] at he
    · exact plainEvent_doorsGood receive_doorsGood h he
    · exact event_doorsGood receive_doorsGood h he
  | none =>
    cases i
    all_goals simp only [Instr.arriving, reduceCtorEq] at ha
    case syncCharacter q b c => exact plainEvent_doorsGood_of_keeps (keepsUnits_hearSync q b c s) h he
    case syncError | parityError | lengthError | gapError | checkError =>
      exact plainEvent_doorsGood_of_keeps (.ite (keepsUnits_dropFrame _ _ s) (.refl s)) h he
    case returnToHunt | transmitStart =>
      exact plainEvent_doorsGood_of_keeps (.ite (keepsUnits_setPort s _ _) (.refl s)) h he
    case lineBreak q n => exact plainEvent_doorsGood_of_keeps (keepsUnits_takeBreak q n s) h he
    case lineHoldWatchArmed => exact plainEvent_doorsGood_of_keeps (f := armWatch) (.refl s) h he
    case lineHoldReset =>
      refine plainEvent_doorsGood (fun h => doorsGood_ite (fun _ => ?_) fun _ => h) h he
      cases s.cab.holdTimer with
      | none => exact h
      | some d => exact resetNode_doorsGood _ (s.reach d)
    case lockTimerExpiry =>
      exact plainEvent_doorsGood_of_keeps (keepsUnits_onExpiry (keepsUnits_loseLock .cab .hunt) _ s) h he
    case silenceTimerExpiry e =>
      exact plainEvent_doorsGood_of_keeps (keepsUnits_onExpiry (keepsUnits_silenceExpired e) _ s) h he
    case idleTimerExpiry e =>
      exact plainEvent_doorsGood_of_keeps (keepsUnits_onExpiry (fun s => keepsUnits_setEnd s e _) _ s) h he
    case transmitComplete => exact plainEvent_doorsGood sent_doorsGood h he
    case collision => exact plainEvent_doorsGood collide_doorsGood h he
    case rosterSendList => exact event_doorsGood_of_view doorView_sendListGoesOn h he
    case storeTimerExpiry =>
      exact plainEvent_doorsGood_of_keeps (keepsUnits_onExpiry keepsUnits_storeDone _ s) h he
    case requestedReset => exact plainEvent_doorsGood pendingReset_doorsGood h he
    case callWindowExpiry => exact event_doorsGood_of_view (doorView_onExpiry doorView_windowExpired _) h he
    case placingTimeout => exact event_doorsGood_of_view (doorView_onExpiry doorView_returnToUnplaced _) h he
    case leadLossExpiry =>
      exact plainEvent_doorsGood_of_keeps (keepsUnits_onExpiry keepsUnits_leadLossExpired _ s) h he
    case holdOffExpiry =>
      exact plainEvent_doorsGood_of_keeps (keepsUnits_onExpiry keepsUnits_holdOffExpired _ s) h he
    case surveyPeriodExpiry => exact event_doorsGood_of_view (doorView_onExpiry doorView_surveyPeriodExpired _) h he
    case heatingPeriodExpiry => exact event_doorsGood_of_view (doorView_onExpiry doorView_heatingPeriodExpired _) h he
    case passTimeout => exact event_doorsGood_of_view (doorView_onExpiry doorView_passTimedOut _) h he
    case warnTimerExpiry c | recycleTimerExpiry c =>
      exact event_doorsGood (onChannelTimer_doorsGood (by simp) fun _ => enterClosing_doorsGood) h he
    case closeTimerExpiry c =>
      exact event_doorsGood (onChannelTimer_doorsGood (by simp) fun _ => closeExpired_doorsGood) h he
    case chimeTimerExpiry => exact event_doorsGood_of_view (doorView_onExpiry (f := chime 0) (fun _ => rfl) _) h he
    case tonePhase => exact event_doorsGood_of_view doorView_tonePhaseExpired h he
    case supplySample v => exact event_doorsGood_of_view (doorView_onExpiry (doorView_supplySample v.toNat) _) h he
    case stageDue => exact event_doorsGood_of_view doorView_dueArrives h he
    case minOffExpiry n => exact event_doorsGood_of_view (doorView_onExpiry (doorView_minOffExpired n) _) h he
    case holdoverExpiry =>
      exact event_doorsGood_of_view (doorView_onExpiry (f := holdoverExpired) (fun _ => rfl) _) h he
    case rawEdge n a => cases he; exact rawEdgeAt_doorsGood a h
    case stabilityTimerExpiry n =>
      refine event_doorsGood (fun h => ?_) h he
      cases (s.input n).timer with
      | none => exact h
      | some d => exact stabilityExpired_doorsGood (s := (begin s).reach d) h
    case supplyReset => cases he; exact resetBegin_doorsGood .supply s
    case supplyAboveUpperThreshold => cases he; exact doorsGood_ite (fun _ => resetEnd_doorsGood h) fun _ => h

theorem step_doorsGood (h : s.doorsGood p) (he : step s = .next t) : t.doorsGood p := by
  unfold step at he
  split at he
  · next c rest _ => exact exec_doorsGood (s := { s with pending := rest }) h he
  · cases he
    unfold tick; split <;> exact h

end exec

/-- Settles O59: the door invariants alone, and together with that of a side without leaves. -/
theorem stepsKeepReleasedDoorsAtStandstill : Obligations.StepsKeepReleasedDoorsAtStandstill := by
  refine ⟨fun s t hd he => ?_, fun s t hd hl he => ?_⟩
  · exact ((doorsGood_iff False t).1 (step_doorsGood ((doorsGood_iff False s).2 ⟨hd, False.elim⟩) he)).1
  · exact ((doorsGood_iff True t).1 (step_doorsGood ((doorsGood_iff True s).2 ⟨hd, fun _ => hl⟩) he)).2 trivial

end Sys2Proof.Machine
end

section
/-! The statements about the channel timers and the tone: WARNING and RECYCLE end in CLOSING, CLOSING ends in RECYCLE or in
FAULT, and the tone follows its demand (R106, R115 to R118, R124, R125). -/

namespace Sys2Proof.Machine

/-! ### What the end of the event goes by -/

/-- The effective target reads of the doors whether they are secured, and no more (R144, R146). -/
theorem teff_congr_secured {s t : State} (hd : t.doorsSecured = s.doorsSecured) (hh : t.heat = s.heat)
    (hi : t.inputs = s.inputs) (hm : t.items = s.items) : t.teff = s.teff := by
  unfold State.teff State.ceiling State.enabledStages State.capTh State.capDoor State.capSup State.inactive State.input
    State.itemN State.item
  rw [hd, hh, hi, hm]

theorem doorsSecured_of_side {s : State} {c : Side} (h : s.secured c = false) : s.doorsSecured = false := by
  unfold State.doorsSecured
  cases c
  · rw [h, Bool.false_and]
  · rw [h, Bool.and_false]

/-- The tone demand reads which channels are in WARNING, and the chime (R124). -/
theorem toneDemand_congr_warning {s t : State}
    (h : ∀ c, (t.channel c).state = .warning ↔ (s.channel c).state = .warning) (hc : t.doors.chime = s.doors.chime) :
    t.toneDemand = s.toneDemand := by
  have hb (c : Side) : ((t.channel c).state == .warning) = ((s.channel c).state == .warning) := by
    rw [Bool.eq_iff_iff, beq_iff_eq, beq_iff_eq]; exact h c
  show ((t.channel .a).state == .warning || (t.channel .b).state == .warning || t.doors.chime.isSome) = _
  rw [hb, hb, hc]; rfl

/-- The end of an event that has left a tone as its demand asks, with the effective target and the heating unit as they
were, only clears the scratch fields. -/
theorem finish_toned {s t : State} (hr : s.atRest) (htone : t.doors.tone.isSome = t.toneDemand) (ht : t.teff = s.teff)
    (hh : t.heat = s.heat) (hs : t.scratch = s.scratch) : finish (t.withScratch ⟨s.teff, false, none⟩) = t := by
  obtain ⟨h0, -, h2, h3⟩ := hr
  refine (finish_stable (s := t.withScratch ⟨s.teff, false, none⟩) rfl htone ?_ ?_ ht.symm).trans ?_
  · show t.heat.level ≤ t.teff; rwa [ht, hh]
  · show t.heat.raise.isSome = true → t.heat.level < t.teff; rwa [ht, hh]
  · show { t with scratch := Scratch.rest } = t
    rw [← h0, ← hs]

/-- The tone is settled first of all. -/
theorem finish_settleTone (s : State) : finish (settleTone s) = finish s := by
  unfold finish
  rw [settleTone_of (settleTone_agrees s)]

/-! ### Outputs of a channel (R106) -/

theorem output_close {s : State} (c : Side) (hlow : s.supplyLow = false) :
    s.output (.close c) = ((s.channel c).state == .closing) := by
  unfold State.output; rw [hlow]; rfl

theorem output_release {s : State} (c : Side) (hlow : s.supplyLow = false) :
    s.output (.release c) = ((s.channel c).state == .released || (s.channel c).state == .warning) := by
  unfold State.output; rw [hlow]; rfl

/-! ### A channel timer expires (R114) -/

/-- The state in which a timer's expiry at `d` is handled. -/
def expiredAt (d : Nat) (s : State) : State := (s.reach d).withScratch ⟨s.teff, false, none⟩

@[simp] theorem channel_expiredAt (d : Nat) (s : State) (c : Side) : (expiredAt d s).channel c = s.channel c := by
  cases c <;> rfl

theorem event_channelTimer {c : Side} {st : DoorState} {s : State} {d : Nat} (f : State → State)
    (hlow : s.supplyLow = false) (hst : (s.channel c).state = st) (hd : (s.channel c).timer = some d) :
    event (onChannelTimer c st f) s = .next (finish (f (expiredAt d s))) := by
  have hch : (begin s).channel c = s.channel c := by cases c <;> rfl
  rw [event_of _ hlow, onChannelTimer, hch, if_pos hst, hd]
  rfl

/-- `t` is `s` with channel `c` moved to `ch`, and what the end of an event makes of the tone and the energizer. -/
structure ChannelLeft (c : Side) (ch : Channel) (s t : State) : Prop where
  channel : t.channel c = ch
  others : ∀ c', c' ≠ c → t.channel c' = s.channel c'
  consist : t.consist = s.consist
  events : t.events = s.events
  port : ∀ p, t.port p = s.port p
  items : t.items = s.items
  inputs : t.inputs = s.inputs
  target : t.heat.target = s.heat.target
  supplyLow : t.supplyLow = s.supplyLow

theorem channelLeft_finish (c : Side) (ch : Channel) (d : Nat) (s : State) :
    ChannelLeft c ch s (finish ((expiredAt d s).setChannel c ch)) := by
  obtain ⟨x, hx⟩ : ∃ x, x = (expiredAt d s).setChannel c ch := ⟨_, rfl⟩
  have hdue : x.scratch.statusDue = false := by rw [hx, setChannel_scratch]; rfl
  have ho : OnlyDoors (expiredAt d s) x := hx ▸ onlyDoors_setChannel _ c ch
  have hf := finish_owesNothing hdue
  rw [← hx]
  constructor
  case channel => rw [finish_channel hdue, hx, channel_setChannel]
  case others =>
    intro c' hc
    rw [finish_channel hdue, hx, channel_setChannel_ne _ _ hc, channel_expiredAt]
  case consist => exact (congrArg State.consist hf).trans ho.consist
  case events => exact (congrArg State.events hf).trans (by rw [hx, setChannel_events]; rfl)
  case port => intro p; rw [finish_port hdue, ho.port]; rcases p with (_ | _) | _ <;> rfl
  case items => exact (congrArg State.items hf).trans ho.items
  case inputs => exact (congrArg State.inputs hf).trans ho.inputs
  case target => exact (congrArg (·.heat.target) hf).trans (congrArg Heat.target ho.heat)
  case supplyLow => exact (congrArg State.supplyLow hf).trans (congrArg State.supplyLow ho :)

/-! ### WARNING and RECYCLE (R115, R116, R118) -/

/-- The channel that enters CLOSING at the moment `now`, or goes on to LOCKED. -/
def closingChannel (c : Side) (now : Nat) (s : State) : Channel :=
  if s.allClosed c = true then (s.channel c).inLocked
  else { s.channel c with state := .closing, timer := some (now + s.itemN Item.closeTime) }

theorem enterClosing_expiredAt (c : Side) (d : Nat) (s : State) : enterClosing c (expiredAt d s) =
    (expiredAt d s).setChannel c (closingChannel c (max s.now d) s) := by
  have hall : (expiredAt d s).allClosed c = s.allClosed c := rfl
  unfold enterClosing closingChannel enterLocked
  rw [hall, channel_expiredAt]
  split <;> rfl

/-- The warn timer and the recycle timer end alike. -/
theorem exec_entersClosing {c : Side} {s : State} {d : Nat} {i : Instr} (hlow : s.supplyLow = false)
    (hd : (s.channel c).timer = some d)
    (hi : i = .warnTimerExpiry c ∧ (s.channel c).state = .warning ∨
      i = .recycleTimerExpiry c ∧ (s.channel c).state = .recycle) :
    ∃ t, exec i s = .next t ∧ ChannelLeft c (closingChannel c (max s.now d) s) s t := by
  refine ⟨finish (enterClosing c (expiredAt d s)), ?_, ?_⟩
  · rcases hi with ⟨rfl, hst⟩ | ⟨rfl, hst⟩ <;> exact event_channelTimer (enterClosing c) hlow hst hd
  · rw [enterClosing_expiredAt]; exact channelLeft_finish c _ d s

theorem leafOpens_of_ne {c : Side} {n : Fin 4} {s : State} (h : (s.channel c).state ≠ .locked) : leafOpens c n s = s :=
  if_neg fun hc => h hc.2

theorem leafCloses_of_ne {c : Side} {n : Fin 4} {s : State} (h : (s.channel c).state ≠ .closing) : leafCloses c n s = s :=
  if_neg fun hc => h hc.2.1

/-- A leaf that settles, opens or closes is passed over by a channel outside the hold that is neither LOCKED nor in
CLOSING (R116, R118, R120). -/
theorem exec_leafDisregarded {c : Side} {n : Fin 4} {s : State} {d : Nat} (hlow : s.supplyLow = false)
    (hd : (s.input (.leaf c n)).timer = some d) (hhold : (s.channel c).hold = false)
    (h1 : (s.channel c).state ≠ .locked) (h2 : (s.channel c).state ≠ .closing) :
    exec (.stabilityTimerExpiry (.leaf c n)) s = .next (finish (filteredAt (.leaf c n) d s)) := by
  have ho : leafOpens c n (filteredAt (.leaf c n) d s) = filteredAt (.leaf c n) d s :=
    leafOpens_of_ne (by rwa [channel_filteredAt])
  have hc : leafCloses c n (filteredAt (.leaf c n) d s) = filteredAt (.leaf c n) d s :=
    leafCloses_of_ne (by rwa [channel_filteredAt])
  have hleaf (b : Bool) (hraw : (s.input (.leaf c n)).raw = b)
      (hl : (s.input (.leaf c n)).level = some (!b) ∨ (s.input (.leaf c n)).level = none) :
      exec (.stabilityTimerExpiry (.leaf c n)) s = .next (finish (filteredAt (.leaf c n) d s)) := by
    rw [exec_leaf hlow hd hraw (hl.imp_right fun hn => ⟨hn, hhold⟩), ho, hc, ite_self]
  cases hl : (s.input (.leaf c n)).level with
  | none => exact hleaf _ rfl (.inr hl)
  | some f =>
    by_cases hf : f = (s.input (.leaf c n)).raw
    · exact exec_unchanged hlow hd (hf ▸ hl)
    · refine hleaf _ rfl (.inl ?_)
      rw [hl, Bool.eq_not_of_ne hf]

/-- Settles O37: the two timers, and a leaf at a channel in RECYCLE. -/
theorem warningAndRecycleEndInClosing : Obligations.WarningAndRecycleEndInClosing := by
  refine ⟨fun c s d i hlow _ hd hi => ?_, fun c n s d hlow _ hhold hst hd => ?_⟩
  · obtain ⟨t, hexec, h⟩ := exec_entersClosing hlow hd hi
    have hlow' : t.supplyLow = false := h.supplyLow.trans hlow
    have hch := h.channel
    refine ⟨t, hexec, fun hall => ?_, fun hall => ?_, h.others, h.consist, h.events, h.port, h.items, h.inputs,
      h.target⟩ <;> rw [closingChannel, hall] at hch <;>
      exact ⟨hch, by rw [output_close c hlow', hch]; rfl, by rw [output_release c hlow', hch]; rfl⟩
  · obtain ⟨hkeep, -, -, -, -, -, hsup⟩ := finish_onlyDoors (OnlyDoors.refl (filteredAt (.leaf c n) d s))
    have hch : (finish (filteredAt (.leaf c n) d s)).channel c = s.channel c :=
      (hkeep c).trans (channel_filteredAt _ _ _ _)
    have hoff (u : State) (hu : u.supplyLow = false) (hc : u.channel c = s.channel c) :
        u.output (.close c) = false ∧ u.output (.release c) = false := by
      rw [output_close c hu, output_release c hu, hc, hst]; exact ⟨rfl, rfl⟩
    obtain ⟨hclose, hrelease⟩ := hoff s hlow rfl
    exact ⟨hclose, hrelease, _, exec_leafDisregarded hlow hd hhold (by rw [hst]; decide) (by rw [hst]; decide), hch,
      hoff _ (hsup.trans hlow) hch⟩

/-! ### The close timer (R117) -/

section close

variable {c : Side} {s : State} {d : Nat}

/-- The channel as its close timer leaves it. -/
def retriedChannel (c : Side) (now : Nat) (s : State) : Channel :=
  if (s.channel c).retries < s.itemN Item.maxRetries then
    { s.channel c with
      state := .recycle, timer := some (now + s.itemN Item.recycleTime), retries := (s.channel c).retries + 1 }
  else (s.channel c).inFault .closeTimeout

/-- What the close timer raises. -/
def closeEvent (c : Side) (s : State) : Event :=
  if (s.channel c).retries < s.itemN Item.maxRetries then .doorRecycle else doorFaultEvent c

/-- The node once the close timer has expired. -/
def closeTimedOut (c : Side) (d : Nat) (s : State) : State :=
  raise (closeEvent c s) ((s.reach d).setChannel c (retriedChannel c (max s.now d) s))

theorem closeExpired_expiredAt (c : Side) (d : Nat) (s : State) :
    closeExpired c (expiredAt d s) = (closeTimedOut c d s).withScratch ⟨s.teff, false, none⟩ := by
  unfold closeExpired closeTimedOut closeEvent retriedChannel enterRecycle enterFault
  rw [channel_expiredAt]
  have hmax : (expiredAt d s).itemN Item.maxRetries = s.itemN Item.maxRetries := rfl
  rw [hmax]
  split <;> cases c <;> rfl

theorem closeTimedOut_channel : (closeTimedOut c d s).channel c = retriedChannel c (max s.now d) s := by
  rw [closeTimedOut, channel_raise, channel_setChannel]

theorem closeTimedOut_channel_ne {c' : Side} (h : c' ≠ c) : (closeTimedOut c d s).channel c' = s.channel c' := by
  rw [closeTimedOut, channel_raise, channel_setChannel_ne _ _ h]; cases c' <;> rfl

theorem closeTimedOut_present (ev : Event) :
    (closeTimedOut c d s).present ev = (s.present ev || ev == closeEvent c s) := by
  rw [closeTimedOut, present_raise_iff, State.present, setChannel_events]; rfl

/-- Neither state that it may end in is secured, released or warning. -/
theorem retriedChannel_state (c : Side) (now : Nat) (s : State) :
    (retriedChannel c now s).state = .recycle ∨ (retriedChannel c now s).state = .fault := by
  unfold retriedChannel; split
  · exact .inl rfl
  · exact .inr rfl

theorem closeTimedOut_state : ((closeTimedOut c d s).channel c).state = .recycle ∨
    ((closeTimedOut c d s).channel c).state = .fault := by
  rw [closeTimedOut_channel]; exact retriedChannel_state c _ s

/-- The close timer leaves the tone demand and the effective target as they were. -/
theorem closeTimedOut_settled (hst : (s.channel c).state = .closing) :
    (closeTimedOut c d s).toneDemand = s.toneDemand ∧ (closeTimedOut c d s).teff = s.teff := by
  refine ⟨toneDemand_congr_warning (fun c' => ?_) ?_, teff_congr_secured ?_ ?_ ?_ ?_⟩
  · by_cases h : c' = c
    · subst h
      rw [hst]
      rcases closeTimedOut_state (c := c') (d := d) (s := s) with h | h <;> simp [h]
    · rw [closeTimedOut_channel_ne h]
  · cases c <;> rfl
  · have h : s.secured c = false := by simp [State.secured, hst]
    have h' : (closeTimedOut c d s).secured c = false := by
      rcases closeTimedOut_state (c := c) (d := d) (s := s) with e | e <;> simp [State.secured, e]
    rw [doorsSecured_of_side h, doorsSecured_of_side h']
  all_goals cases c <;> rfl

theorem exec_closeTimer (hlow : s.supplyLow = false) (hr : s.atRest) (hd : (s.channel c).timer = some d)
    (hst : (s.channel c).state = .closing) : exec (.closeTimerExpiry c) s = .next (closeTimedOut c d s) := by
  obtain ⟨hdemand, hteff⟩ := closeTimedOut_settled (d := d) hst
  refine (event_channelTimer (closeExpired c) hlow hst hd).trans ?_
  rw [closeExpired_expiredAt, finish_toned hr ?_ hteff]
  · cases c <;> rfl
  · cases c <;> rfl
  · rw [hdemand, ← hr.2.1]; cases c <;> rfl

end close

/-- Settles O38: RECYCLE or FAULT by the retry count, and what is raised with it. -/
theorem closeTimeoutRecyclesOrFaults : Obligations.CloseTimeoutRecyclesOrFaults := by
  intro c s d hlow hr hd hst
  have hch := closeTimedOut_channel (c := c) (d := d) (s := s)
  have hlow' : (closeTimedOut c d s).supplyLow = false := by cases c <;> exact hlow
  have hstate := closeTimedOut_state (c := c) (d := d) (s := s)
  have hev := closeTimedOut_present (c := c) (d := d) (s := s)
  have hraised : (closeTimedOut c d s).present (closeEvent c s) = true := present_raise _ _
  refine ⟨_, exec_closeTimer hlow hr hd hst, ?_, ?_, fun h => ?_, fun h => ?_, fun ev => ?_, fun h5 hr5 => ?_,
    fun c' => closeTimedOut_channel_ne, ?_, ?_, ?_⟩
  · rw [output_close c hlow']; rcases hstate with h | h <;> rw [h] <;> rfl
  · rw [output_release c hlow', output_release c hlow, hst]; rcases hstate with h | h <;> rw [h] <;> rfl
  · rw [closeEvent, if_pos h] at hraised
    exact ⟨hraised, hch.trans (if_pos h)⟩
  · rw [closeEvent, if_neg (by omega)] at hraised
    exact ⟨hraised, hch.trans (if_neg (by omega))⟩
  · rw [hev, closeEvent, apply_ite (ev == ·)]
  · rw [hch, retriedChannel]; split
    · show (s.channel c).retries + 1 ≤ 5; omega
    · exact hr5
  all_goals cases c <;> rfl

/-! ### The tone (R124, R125) -/

/-- Settles O39: the tone ends with its demand, and its phases alternate while it lasts. -/
theorem toneFollowsDemand : Obligations.ToneFollowsDemand := by
  refine ⟨fun s d hlow hr hd => ?_, fun s x d hlow hr hx hd => ?_⟩
  · obtain ⟨-, htone, -, -⟩ := id hr
    have hsome : s.doors.tone.isSome = true := by rw [htone, State.toneDemand, hd]; simp
    obtain ⟨x, hx⟩ := Option.isSome_iff_exists.1 hsome
    obtain ⟨t, ht⟩ : ∃ t : State, t = { s.reach d with doors := { s.doors with chime := none, tone :=
        if s.doors.a.state = .warning ∨ s.doors.b.state = .warning then s.doors.tone else none } } := ⟨_, rfl⟩
    have hdemand : (chime 0 (expiredAt d s)).toneDemand =
        decide (s.doors.a.state = .warning ∨ s.doors.b.state = .warning) := by
      rw [Bool.eq_iff_iff]
      simp [State.toneDemand, chime, expiredAt, State.withScratch, State.reach]
    have hsettled : settleTone (chime 0 (expiredAt d s)) = t.withScratch ⟨s.teff, false, none⟩ := by
      have hxe : (chime 0 (expiredAt d s)).doors.tone = some x := hx
      unfold settleTone
      rw [hdemand, hxe, ht]
      by_cases hw : s.doors.a.state = .warning ∨ s.doors.b.state = .warning <;> simp [hw] <;> rfl
    refine ⟨t, ?_, by rw [ht], by rw [ht]; rfl⟩
    show event (onExpiry s.doors.chime (chime 0)) s = _
    rw [event_of _ hlow, hd, onExpiry_some]
    show Host.Outcome.next (finish (chime 0 (expiredAt d s))) = _
    have hagrees := settleTone_agrees (chime 0 (expiredAt d s))
    rw [← finish_settleTone, hsettled]
    rw [hsettled] at hagrees
    rw [finish_toned (t := t) hr hagrees]
    · rw [ht]; rfl
    · rw [ht]; rfl
    · rw [ht]; rfl
  · obtain ⟨-, htone, -, -⟩ := id hr
    obtain ⟨t, ht⟩ : ∃ t : State, t = { s with now := max s.now d, doors := { s.doors with
        tone := some { x with phaseOn := !x.phaseOn, phase := some (d + 500) } } } := ⟨_, rfl⟩
    have hphase : tonePhaseExpired (begin s) = t.withScratch ⟨s.teff, false, none⟩ := by
      have hxe : (begin s).doors.tone = some x := hx
      unfold tonePhaseExpired
      rw [hxe]; dsimp only; rw [hd, ht]; rfl
    have hdemand : t.toneDemand = s.toneDemand := by rw [ht]; rfl
    rw [← ht]
    show event tonePhaseExpired s = _
    rw [event_of _ hlow, hphase, finish_toned hr]
    · rw [hdemand, ← htone, hx, ht]; rfl
    · rw [ht]; rfl
    · rw [ht]
    · rw [ht]

end Sys2Proof.Machine
end

section
/-! The statement about WRITE ITEMS (R109, R177, R182, R183, R188). -/

namespace Sys2Proof.Machine

/-! ### The values of a request, and how each is stored (R183) -/

theorem wordsOf_bytesOf (vs : List Word) : wordsOf (bytesOf vs) = vs := by
  induction vs with
  | nil => rfl
  | cons v vs ih =>
    have hword : hiByte v ++ loByte v = v := wordAt_wordBytes v []
    show (hiByte v ++ loByte v) :: wordsOf (bytesOf vs) = _
    rw [hword, ih]

theorem length_bytesOf (vs : List Word) : (bytesOf vs).length = 2 * vs.length := by
  induction vs with
  | nil => rfl
  | cons v vs ih =>
    show (bytesOf vs).length + 1 + 1 = 2 * (vs.length + 1)
    omega

/-- The range of a clamped item lies within a word, its lower bound first. -/
def ItemKind.bounded : ItemKind → Bool
  | .range lo hi => decide (lo ≤ hi) && decide (hi < 65536)
  | .code _ | .bits _ | .slot => true

theorem itemKind_bounded (n : Nat) : (itemKind n).bounded = true := by
  have hrows : itemRows.all (fun r => r.1.bounded) = true := by decide
  unfold itemKind
  by_cases h : n < itemRows.length
  · rw [List.getD_eq_getElem _ _ h]
    exact List.all_eq_true.1 hrows _ (List.getElem_mem h)
  · rw [List.getD_eq_default _ _ (by omega)]; rfl

/-- A numeric value is clamped into its item's range. -/
theorem writeValue_range {n lo hi : Nat} (v : Word) (h : itemKind n = .range lo hi) :
    ∃ w, writeValue n v = some w ∧ w.toNat = max lo (min hi v.toNat) := by
  have hb := itemKind_bounded n
  rw [h] at hb
  obtain ⟨hle, hlt⟩ : lo ≤ hi ∧ hi < 65536 := by simpa [ItemKind.bounded] using hb
  have hword {k : Nat} (hk : k < 65536) : (wordItem k).toNat = k := Nat.mod_eq_of_lt hk
  refine ⟨_, by rw [writeValue, h], ?_⟩
  split
  · rw [hword (by omega)]; omega
  split
  · rw [hword hlt]; omega
  · omega

theorem length_writeValues {n : Nat} {vs ws : List Word} (h : writeValues n vs = some ws) : ws.length = vs.length := by
  induction vs generalizing n ws with
  | nil => cases h; rfl
  | cons v vs ih =>
    unfold writeValues at h
    split at h
    · next hws => cases h; rw [List.length_cons, List.length_cons, ih hws]
    · cases h

theorem writeValues_one {n : Nat} {v w : Word} (h : writeValue n v = some w) : writeValues n [v] = some [w] := by
  rw [writeValues, h]; rfl

/-! ### What the stored values do at once (R109, R177) -/

section effects

variable {a n : Nat} {s : State}

theorem coversItem_eq_false {k : Nat} (h : k < a ∨ a + n ≤ k) : coversItem a n k = false := by
  rw [← Bool.not_eq_true]
  simp only [coversItem, Bool.and_eq_true, decide_eq_true_eq]
  omega

theorem raiseNoticed_eq (a n : Nat) (s : State) : ∃ evs, raiseNoticed a n s = { s with events := evs } := by
  have hfold (b : Event → Bool) (l : List Event) (t : State) :
      ∃ evs, l.foldl (fun t ev => raiseIf (b ev) ev t) t = { t with events := evs } := by
    induction l generalizing t with
    | nil => exact ⟨_, rfl⟩
    | cons ev l ih =>
      obtain ⟨evs, h⟩ := raiseIf_eq (b ev) ev t
      obtain ⟨evs', h'⟩ := ih (raiseIf (b ev) ev t)
      exact ⟨evs', h'.trans (by rw [h])⟩
  exact hfold _ _ s

/-- The condition events that the written enables name, and whose conditions are true, are raised; no other event is. -/
theorem present_raiseNoticed (x : Event) : (raiseNoticed a n s).present x =
    (s.present x || (noticeWritten a n s x && s.condition x)) := by
  have hfold (b : Event → Bool) (l : List Event) (t : State) :
      (l.foldl (fun t ev => raiseIf (b ev) ev t) t).present x = (t.present x || (decide (x ∈ l) && b x)) := by
    induction l generalizing t with
    | nil => simp
    | cons ev l ih =>
      rw [List.foldl_cons, ih, present_raiseIf]
      by_cases h : x = ev
      · subst h; cases t.present x <;> cases b x <;> simp
      · simp [h, beq_eq_false_iff_ne.2 h]
  refine (hfold _ _ s).trans ?_
  by_cases h : x ∈ conditionEvents
  · simp [h]
  · have hc : s.condition x = false := by
      cases x
      case doorFaultA | doorFaultB | supplyShed | segmentFault | senseMismatch | conflict => exact absurd (by decide) h
      all_goals rfl
    simp [h, hc]

theorem raiseNoticed_outside (h : coversItem a n Item.noticeLow = false) (h' : coversItem a n Item.noticeHigh = false) :
    raiseNoticed a n s = s := by
  have hw (ev : Event) : noticeWritten a n s ev = false := by
    unfold noticeWritten; rw [h, h']; simp
  unfold raiseNoticed
  simp only [hw, Bool.false_and, raiseIf]
  rfl

theorem onlyDoors_storeItems (a : Nat) (ws : List Word) (s : State) :
    OnlyDoors { s with items := s.items.setFrom a ws } (storeItems a ws s) := by
  have hcount (c : Side) (t : State) : OnlyDoors t (writeLeafCount a ws.length s c t) :=
    .ite (onlyDoors_leafCountWritten c t _) (.refl t)
  obtain ⟨evs, hn⟩ := raiseNoticed_eq a ws.length (writeLeafCount a ws.length s .b
    (writeLeafCount a ws.length s .a { s with items := s.items.setFrom a ws }))
  refine ((hcount .a _).trans (hcount .b _)).trans ?_
  show OnlyDoors _ (raiseNoticed _ _ _)
  rw [hn]; rfl

/-- A write behind the leaf counts leaves the doors alone. -/
theorem storeItems_behind (ws : List Word) (h : 2 < a) :
    storeItems a ws s = raiseNoticed a ws.length { s with items := s.items.setFrom a ws } := by
  have hcount (c : Side) (t : State) : writeLeafCount a ws.length s c t = t :=
    if_neg (by rw [coversItem_eq_false (.inl (by cases c <;> simp [Item.leafCount] <;> omega))]; decide)
  show raiseNoticed a ws.length (writeLeafCount _ _ _ _ (writeLeafCount _ _ _ _ _)) = _
  rw [hcount, hcount]

/-- A write of one leaf count acts on the channel of its side. -/
theorem storeItems_leafCount (c : Side) (w : Word) : storeItems (Item.leafCount c) [w] s =
    leafCountWritten c (s.leafCount c) { s with items := s.items.set (Item.leafCount c) w } := by
  cases c <;> exact raiseNoticed_outside rfl rfl

end effects

/-! ### The tests in their order (R182, R183, R188) -/

section tests

variable {src : Source} {a n : Byte} {vs ws : List Word} {s : State}

theorem answerWriteItems_busy (h : s.mgmt.store = .storing) : answerWriteItems src a n vs s = refuse src 2 .busy s :=
  if_pos h

theorem answerWriteItems_badItem (hst : s.mgmt.store ≠ .storing)
    (hr : ¬ (1 ≤ n.toNat ∧ n.toNat ≤ 16 ∧ a.toNat + n.toNat ≤ 89)) :
    answerWriteItems src a n vs s = refuse src 2 .badItem s := by
  rw [← itemRange_iff, Bool.not_eq_true] at hr
  rw [answerWriteItems, if_neg hst, if_pos hr]

theorem answerWriteItems_readOnly (hst : s.mgmt.store ≠ .storing)
    (hr : 1 ≤ n.toNat ∧ n.toNat ≤ 16 ∧ a.toNat + n.toNat ≤ 89) (h51 : 51 < a.toNat + n.toNat) :
    answerWriteItems src a n vs s = refuse src 2 .readOnly s := by
  rw [← itemRange_iff] at hr
  rw [answerWriteItems, if_neg hst, if_neg (by rw [hr]; decide), if_pos h51]

/-- A range of configuration items: what is left are the values themselves. -/
theorem answerWriteItems_inRange (hst : s.mgmt.store ≠ .storing) (h1 : 1 ≤ n.toNat) (h16 : n.toNat ≤ 16)
    (h51 : a.toNat + n.toNat ≤ 51) : answerWriteItems src a n vs s =
      match writeValues a.toNat vs with
      | none => refuse src 2 .badEntry s
      | some ws =>
        if thresholdsGood a.toNat n.toNat (s.items.setFrom a.toNat ws) then
          reply src 2 .done ([a, n] ++ bytesOf ws) (storeItems a.toNat ws s)
        else refuse src 2 .badEntry s := by
  have hr : itemRange a.toNat n.toNat = true := itemRange_iff.2 ⟨h1, h16, by omega⟩
  exact (if_neg hst).trans ((if_neg (by rw [hr]; decide)).trans (if_neg (by omega)))

end tests

/-! ### A WRITE ITEMS at the cab port -/

/-- What a write leaves alone: `t` is `s` but for the cab port, the doors, the events, the items, the scratch fields, and
what the heating unit settles at the end of an event. -/
def KeptByWrite (s t : State) : Prop := { t with
  puC := s.puC
  cab := s.cab
  doors := s.doors
  heat := { t.heat with level := s.heat.level, minOff := s.heat.minOff, raise := s.heat.raise }
  events := s.events
  items := s.items
  scratch := s.scratch } = s

namespace KeptByWrite

variable {s t u : State}

theorem trans (h : KeptByWrite s t) (h' : KeptByWrite t u) : KeptByWrite s u := by
  unfold KeptByWrite at *
  exact (congrArg (fun x : State => { x with
    puC := s.puC
    cab := s.cab
    doors := s.doors
    heat := { x.heat with level := s.heat.level, minOff := s.heat.minOff, raise := s.heat.raise }
    events := s.events
    items := s.items
    scratch := s.scratch }) h').trans h

theorem of_onlyDoors (h : OnlyDoors s t) : KeptByWrite s t := by
  obtain ⟨ds, evs, rfl⟩ : ∃ ds evs, t = { s with doors := ds, events := evs } :=
    ⟨_, _, congrArg (fun x : State => { x with doors := t.doors, events := t.events }) h⟩
  rfl

theorem enqueue (s : State) (q : Queued) : KeptByWrite s (s.enqueue .cab q) := rfl

theorem finish (h : s.scratch.statusDue = false) : KeptByWrite s (finish s) := by
  unfold KeptByWrite
  rw [finish_owesNothing h]

theorem consist (h : KeptByWrite s t) : t.consist = s.consist := congrArg (·.consist) h
theorem lead (h : KeptByWrite s t) : t.lead = s.lead := congrArg (·.lead) h
theorem seq (h : KeptByWrite s t) : t.seq = s.seq := congrArg (·.seq) h
theorem orders (h : KeptByWrite s t) : t.orders = s.orders := congrArg (·.orders) h
theorem inputs (h : KeptByWrite s t) : t.inputs = s.inputs := congrArg (·.inputs) h
theorem stages (h : KeptByWrite s t) : t.heat.stages = s.heat.stages := congrArg (·.heat.stages) h
theorem target (h : KeptByWrite s t) : t.heat.target = s.heat.target := congrArg (·.heat.target) h

end KeptByWrite

section command

variable {f : LineFrame} {s : State} {a n : Byte} {vs ws : List Word}

theorem requestLength_items (h : vs.length = n.toNat) : requestLength ([2, a, n] ++ bytesOf vs) = true := by
  have hlen : ([2, a, n] ++ bytesOf vs).length = 3 + 2 * n.toNat := by
    rw [List.length_append, length_bytesOf, h]; rfl
  show (([2, a, n] ++ bytesOf vs).length == 3 + 2 * n.toNat) = true
  rw [hlen]; exact beq_self_eq_true _

theorem execute_writeItems (u : State) :
    execute .cab ([2, a, n] ++ bytesOf vs) u = answerWriteItems .cab a n vs u := by
  show answerWriteItems .cab a n (wordsOf (bytesOf vs)) u = _
  rw [wordsOf_bytesOf]

/-- One that is refused brings its REPLY alone: no item changes. -/
theorem exec_itemsRefused {st : Status} (h : LocalRequest [2] f s) (hb : f.body = [a, n] ++ bytesOf vs)
    (hl : vs.length = n.toNat) (hans : ∀ u : State, u.mgmt.store = s.mgmt.store → u.items = s.items →
      answerWriteItems .cab a n vs u = refuse .cab 2 st u) :
    ∃ t, exec (.writeItems .cab f) s = .next t ∧ OnlyReply 2 st [] s t := by
  have hp : [2] ++ f.body = [2, a, n] ++ bytesOf vs := by rw [hb]; rfl
  refine exec_answeredOnly rfl h (by rw [hp]; rfl) (by rw [hp]; exact requestLength_items hl) fun c => ?_
  rw [hp, execute_writeItems]
  exact hans _ (store_heardCab s c) (heard_items .cab s)

/-- The node in whose event a request at the cab port is executed. -/
def requestTaken (s : State) : State := (heard .cab s).withScratch ⟨s.teff, false, none⟩

theorem requestTaken_items : (requestTaken s).items = s.items := heard_items .cab s

theorem requestTaken_eq (s : State) : requestTaken s = { s with
    puC := (heard .cab s).puC, cab := (heard .cab s).cab, scratch := ⟨s.teff, false, none⟩ } := by
  rw [requestTaken, heard_cab_eq]; rfl

/-- It with the values stored from item `a` on. -/
def itemsSet (a : Nat) (ws : List Word) (s : State) : State :=
  { requestTaken s with items := s.items.setFrom a ws }

/-- The stored values given their effects, and the REPLY of them sent. -/
def itemsAnswered (a n : Byte) (ws : List Word) (s : State) : State :=
  (storeItems a.toNat ws (requestTaken s)).enqueue .cab
    (queued (replyFrame s.consist.position 2 .done ([a, n] ++ bytesOf ws)))

theorem onlyDoors_stored (a : Nat) (ws : List Word) (s : State) : OnlyDoors (itemsSet a ws s)
    (storeItems a ws (requestTaken s)) := by
  have h := onlyDoors_storeItems a ws (requestTaken s)
  rwa [requestTaken_items] at h

theorem exec_itemsAnswered (h : LocalRequest [2] f s) (hb : f.body = [a, n] ++ bytesOf vs) (hl : vs.length = n.toNat)
    (hst : s.mgmt.store ≠ .storing) (h1 : 1 ≤ n.toNat) (h16 : n.toNat ≤ 16) (h51 : a.toNat + n.toNat ≤ 51)
    (hws : writeValues a.toNat vs = some ws)
    (hgood : thresholdsGood a.toNat n.toNat (s.items.setFrom a.toNat ws) = true) :
    exec (.writeItems .cab f) s = .next (finish (itemsAnswered a n ws s)) := by
  have hp : [2] ++ f.body = [2, a, n] ++ bytesOf vs := by rw [hb]; rfl
  have honly := onlyDoors_stored a.toNat ws s
  have hroom : (storeItems a.toNat ws (requestTaken s)).roomFor .cab 1 := by
    unfold State.roomFor
    rw [honly.port]
    exact (heard_roomFor .cab .cab s 1).2 h.room
  rw [exec_localRequest rfl h (by rw [hp]; rfl) (by rw [hp]; exact requestLength_items hl), hp, execute_writeItems,
    ← requestTaken, answerWriteItems_inRange (by rwa [requestTaken, store_heardCab]) h1 h16 h51, hws]
  dsimp only
  rw [requestTaken_items, if_pos hgood, reply_cab _ _ _ hroom, honly.consist]
  have hpos : (itemsSet a.toNat ws s).consist.position = s.consist.position := heard_position .cab s
  rw [hpos, itemsAnswered]

/-! ### The node at the end of the event -/

theorem itemsAnswered_scratch : (itemsAnswered a n ws s).scratch = ⟨s.teff, false, none⟩ :=
  (enqueue_scratch _ _ _).trans (onlyDoors_stored a.toNat ws s).scratch

theorem finish_itemsAnswered : KeptByWrite s (finish (itemsAnswered a n ws s)) := by
  have hdue : (itemsAnswered a n ws s).scratch.statusDue = false := by rw [itemsAnswered_scratch]
  have hset : KeptByWrite s (itemsSet a.toNat ws s) := by unfold KeptByWrite itemsSet; rw [requestTaken_eq]
  exact ((hset.trans (.of_onlyDoors (onlyDoors_stored a.toNat ws s))).trans (.enqueue _ _)).trans (.finish hdue)

theorem finish_itemsAnswered_items : (finish (itemsAnswered a n ws s)).items = s.items.setFrom a.toNat ws := by
  rw [finish_owesNothing (s := itemsAnswered a n ws s) (by rw [itemsAnswered_scratch])]
  exact (enqueue_items _ _ _).trans (onlyDoors_stored a.toNat ws s).items

theorem finish_itemsAnswered_events :
    (finish (itemsAnswered a n ws s)).events =
      (storeItems a.toNat ws (requestTaken s)).events := by
  rw [finish_owesNothing (s := itemsAnswered a n ws s) (by rw [itemsAnswered_scratch])]
  exact enqueue_events _ _ _

theorem cabReply_itemsAnswered : CabReply 2 .done ([a, n] ++ bytesOf ws) s (finish (itemsAnswered a n ws s)) := by
  have hdue : (itemsAnswered a n ws s).scratch.statusDue = false := by rw [itemsAnswered_scratch]
  have hport (p : Port) : (storeItems a.toNat ws (requestTaken s)).port p =
      (heard .cab s).port p := (onlyDoors_stored a.toNat ws s).port p
  refine ⟨?_, fun q hq => ?_⟩
  · rw [Queues, finish_port hdue]
    exact (queues_enqueue _ .cab _).of_port (hport .cab)
  · rw [finish_port hdue, itemsAnswered, port_enqueue_ne _ _ _ hq, hport, heard_port_ne _ _ hq]

/-! ### A write behind the leaf counts -/

theorem stored_behind (h : 2 < a.toNat) : storeItems a.toNat ws (requestTaken s) =
    raiseNoticed a.toNat ws.length (itemsSet a.toNat ws s) := by
  rw [storeItems_behind ws h, requestTaken_items]; rfl

theorem itemsAnswered_doors (h : 2 < a.toNat) : (itemsAnswered a n ws s).doors = s.doors := by
  obtain ⟨evs, hn⟩ := raiseNoticed_eq a.toNat ws.length (itemsSet a.toNat ws s)
  rw [itemsAnswered, enqueue_doors, stored_behind h, hn]
  exact heard_doors .cab s

theorem finish_itemsAnswered_doors (hr : s.atRest) (h : 2 < a.toNat) :
    (finish (itemsAnswered a n ws s)).doors = s.doors := by
  have hd : (itemsAnswered a n ws s).doors = s.doors := itemsAnswered_doors h
  rw [finish_doors (by rw [itemsAnswered_scratch]) (by rw [toneDemand_congr hd, ← hr.2.1, hd]), hd]

/-- Where no notice enable is written, no event is raised. -/
theorem finish_itemsAnswered_unnoticed (h : 2 < a.toNat) (hn : a.toNat + ws.length ≤ 33 ∨ 34 < a.toNat) :
    (finish (itemsAnswered a n ws s)).events = s.events := by
  have hlow : coversItem a.toNat ws.length Item.noticeLow = false :=
    coversItem_eq_false (by simp only [Item.noticeLow]; omega)
  have hhigh : coversItem a.toNat ws.length Item.noticeHigh = false :=
    coversItem_eq_false (by simp only [Item.noticeHigh]; omega)
  rw [finish_itemsAnswered_events, stored_behind h, raiseNoticed_outside hlow hhigh]
  show (heard .cab s).events = _
  rw [heard_cab_eq]

/-- The effective target reads of the items the warm cap alone (R144). -/
theorem teff_congr_warmCap {s t : State} (hd : t.doors = s.doors) (hh : t.heat = s.heat) (hi : t.inputs = s.inputs)
    (hm : t.itemN Item.warmCap = s.itemN Item.warmCap) : t.teff = s.teff := by
  unfold State.teff State.ceiling State.enabledStages State.capTh State.capDoor State.capSup State.doorsSecured
    State.secured State.channel State.inactive State.input
  rw [hd, hh, hi, hm]

/-- A write behind the warm cap leaves the heating unit alone. -/
theorem finish_itemsAnswered_heat (hr : s.atRest) (h : 23 < a.toNat) :
    (finish (itemsAnswered a n ws s)).heat = s.heat := by
  have honly := onlyDoors_stored a.toNat ws s
  have hd : (itemsAnswered a n ws s).doors = s.doors := itemsAnswered_doors (by omega)
  have hh : (itemsAnswered a n ws s).heat = s.heat :=
    (enqueue_heat _ _ _).trans (honly.heat.trans (heard_heat .cab s))
  have hi : (itemsAnswered a n ws s).inputs = s.inputs :=
    (enqueue_inputs _ _ _).trans (honly.inputs.trans (heard_inputs .cab s))
  have hm : (itemsAnswered a n ws s).items = s.items.setFrom a.toNat ws := (enqueue_items _ _ _).trans honly.items
  have hcap : (itemsAnswered a n ws s).itemN Item.warmCap = s.itemN Item.warmCap := by
    unfold State.itemN State.item
    rw [hm, getD_setFrom_outside s.items _ Item.warmCap ws 0 (.inl h)]
  have hend := finish_unmoved (t := (itemsAnswered a n ws s).withScratch s.scratch) hr hd
    (teff_congr_warmCap hd hh hi hcap) (by rw [← hh]; rfl) (by rw [← hh]; rfl) rfl
  have hback : ((itemsAnswered a n ws s).withScratch s.scratch).withScratch ⟨s.teff, false, none⟩ =
      itemsAnswered a n ws s := by
    rw [← itemsAnswered_scratch (a := a) (n := n) (ws := ws)]; rfl
  rw [hback] at hend
  rw [hend]; exact hh

/-! ### A write of one leaf count (R109) -/

/-- The node as the channel of the side goes by it: the new count beside the old channels and inputs. -/
theorem writtenChannel_itemsSet (c : Side) (old a : Nat) (w : Word) :
    writtenChannel c old (itemsSet a [w] s) = writtenChannel c old { s with items := s.items.set a w } := by
  rw [itemsSet, requestTaken_eq]; rfl

theorem channelBecomes_itemsAnswered {c : Side} {w : Word} {n : Byte} (hleaf : s.leafInv) :
    ChannelBecomes c (writtenChannel c (s.leafCount c) { s with items := s.items.set (Item.leafCount c) w }) s
      (finish (itemsAnswered (byteOf (Item.leafCount c)) n [w] s)) := by
  have ha : (byteOf (Item.leafCount c)).toNat = Item.leafCount c := by cases c <;> rfl
  have hcount : (requestTaken s).leafCount c = s.leafCount c :=
    (heard_keepsUnits .cab s).itemN _
  have hchan (d : Side) : (itemsSet (Item.leafCount c) [w] s).channel d = s.channel d := by
    rw [itemsSet, requestTaken_eq]; cases d <;> rfl
  have hmoves := (leafCountWritten_movesTo c (s.leafCount c) (itemsSet (Item.leafCount c) [w] s)).reports fun h0 => by
    rw [hchan]; exact hleaf c h0
  have hstored : storeItems (byteOf (Item.leafCount c)).toNat [w] (requestTaken s) =
      leafCountWritten c (s.leafCount c) (itemsSet (Item.leafCount c) [w] s) := by
    rw [ha, storeItems_leafCount, hcount, requestTaken_items]; rfl
  have hkept := finish_itemsAnswered (a := byteOf (Item.leafCount c)) (n := n) (ws := [w]) (s := s)
  have hdue : (itemsAnswered (byteOf (Item.leafCount c)) n [w] s).scratch.statusDue = false := by
    rw [itemsAnswered_scratch]
  have hch (d : Side) : (finish (itemsAnswered (byteOf (Item.leafCount c)) n [w] s)).channel d =
      (leafCountWritten c (s.leafCount c) (itemsSet (Item.leafCount c) [w] s)).channel d := by
    rw [finish_channel hdue, itemsAnswered, hstored]; cases d <;> rfl
  rw [← writtenChannel_itemsSet]
  refine ⟨?_, fun d hd => ?_, fun ev => ?_, hkept.consist, hkept.lead, hkept.target⟩
  · rw [hch, hmoves, channelMoves, channel_raiseIf, channel_setChannel]
  · rw [hch, hmoves, channelMoves, channel_raiseIf, channel_setChannel_ne _ _ hd, hchan]
  · have hev : (itemsSet (Item.leafCount c) [w] s).events = s.events := by rw [itemsSet, requestTaken_eq]
    rw [State.present, finish_itemsAnswered_events, hstored, hmoves]
    refine (present_raiseIf _ _ _ _).trans ?_
    rw [hchan, State.present, setChannel_events, hev]
    congr 1
    rw [Bool.and_comm, ← Bool.and_assoc, ← Bool.and_assoc]

/-- The written channel in the words of the statement, `k` being the new count. -/
theorem writtenChannel_of_leafCount {c : Side} {old k : Nat} {u : State} (hk : u.leafCount c = k) :
    writtenChannel c old u =
      (if k = 0 then { (u.channel c).inIsolated with cause := if (u.channel c).hold then .none else (u.channel c).cause }
       else if old = 0 then
        (if u.channelSettled c = false then ⟨.fault, true, none, 0, .settling⟩
         else if u.active (.iso c) = true then u.channel c
         else returnedChannel c u)
       else if old = k then u.channel c
       else if (u.channel c).hold = true then
        (if u.channelSettled c = true then heldChannel c u else u.channel c)
       else recountedChannel c u) := by
  subst hk
  unfold writtenChannel
  rw [if_congr (eq_comm (a := u.leafCount c) (b := old)) rfl rfl]

theorem writeValue_leafCount (c : Side) (v : Word) :
    writeValue (Item.leafCount c) v = some (wordItem (min 4 v.toNat)) := by
  have hkind : itemKind (Item.leafCount c) = .range 0 4 := by cases c <;> rfl
  obtain ⟨w, hw, hn⟩ := writeValue_range v hkind
  rw [hw, Option.some_inj]
  refine BitVec.eq_of_toNat_eq (hn.trans ?_)
  rw [Nat.zero_max]
  exact (Nat.mod_eq_of_lt (by omega)).symm

/-- An entry that has been set is the entry read. -/
theorem getD_set_self {α : Type} {m k : Nat} (t : Tab α m) (x d : α) (h : k < m) : (t.set k x).getD k d = x := by
  have hk : k < t.list.length := by rwa [t.size]
  show (t.list.set k x).getD k d = x
  rw [List.getD_eq_getElem?_getD, List.getElem?_set_self hk, Option.getD_some]

theorem leafCount_set (c : Side) {k : Nat} (h : k ≤ 4) :
    { s with items := s.items.set (Item.leafCount c) (wordItem k) }.leafCount c = k := by
  show ((s.items.set (Item.leafCount c) (wordItem k)).getD (Item.leafCount c) 0).toNat = k
  rw [getD_set_self _ _ _ (by cases c <;> decide)]
  exact Nat.mod_eq_of_lt (by omega)

/-! ### A write of the notice enables (R177) -/

/-- The events of item 33 have the bits 0 to 15, those of item 34 the rest (R21). -/
theorem noticeWritten_low (u : State) (ev : Event) : noticeWritten 33 1 u ev =
    (decide (eventBit ev < 16) && (u.item Item.noticeLow).getLsbD (eventBit ev)) := by
  unfold noticeWritten
  split <;> simp [*, coversItem, Item.noticeLow, Item.noticeHigh]

theorem noticeWritten_high (u : State) (ev : Event) : noticeWritten 34 1 u ev =
    (decide (16 ≤ eventBit ev) && (u.item Item.noticeHigh).getLsbD (eventBit ev - 16)) := by
  unfold noticeWritten
  split
  · next h => simp [coversItem, Item.noticeLow, Nat.not_le.2 h]
  · next h => simp [coversItem, Item.noticeHigh, Nat.not_lt.1 h]

theorem present_noticed (h : 2 < a.toNat) (ev : Event) : (finish (itemsAnswered a n ws s)).present ev =
    (s.present ev || (noticeWritten a.toNat ws.length (itemsSet a.toNat ws s) ev && s.condition ev)) := by
  obtain ⟨hpresent, hcond⟩ : (itemsSet a.toNat ws s).present ev = s.present ev ∧
      (itemsSet a.toNat ws s).condition ev = s.condition ev := by
    rw [itemsSet, requestTaken_eq]; exact ⟨rfl, rfl⟩
  rw [State.present, finish_itemsAnswered_events, stored_behind h]
  refine (present_raiseNoticed ev).trans ?_
  rw [hpresent, hcond]

/-- A write of one item of notice enables, as it is stored. -/
theorem exec_noticesWritten {v w : Word} (h : LocalRequest [2] f s) (hb : f.body = [a, 1] ++ wordBytes v)
    (hst : s.mgmt.store ≠ .storing) (ha : a = 33 ∨ a = 34) (hw : writeValue a.toNat v = some w) :
    ∃ t, exec (.writeItems .cab f) s = .next t ∧ t.items = s.items.set a.toNat w ∧
      (∀ ev, t.present ev =
        (s.present ev || (noticeWritten a.toNat 1 (itemsSet a.toNat [w] s) ev && s.condition ev))) ∧
      t.doors = s.doors ∧ t.heat = s.heat ∧ t.consist = s.consist := by
  obtain ⟨h23, h51⟩ : 23 < a.toNat ∧ a.toNat + 1 ≤ 51 := by rcases ha with rfl | rfl <;> decide
  have hgood : thresholdsGood a.toNat 1 (s.items.set a.toNat w) = true := by rcases ha with rfl | rfl <;> rfl
  exact ⟨_, exec_itemsAnswered (n := 1) h hb rfl hst (by decide) (by decide) h51 (writeValues_one hw) hgood,
    finish_itemsAnswered_items, present_noticed (by omega), finish_itemsAnswered_doors h.atRest (by omega),
    finish_itemsAnswered_heat h.atRest h23, finish_itemsAnswered.consist⟩

end command

/-- Settles O51: the tests in their order, the values stored and clamped, and what leaf counts and notice enables do at
once. -/
theorem itemsAreWrittenWhole : Obligations.ItemsAreWrittenWhole := by
  refine ⟨fun n lo hi v h => writeValue_range v h,
    fun f s a n vs h hb hl h1 h16 h51 => ⟨fun hst => ?_, fun hst hnone => ?_, fun ws hst hws => ?_⟩,
    fun f s a n vs h hb hl hst => ⟨fun hr => ?_, fun h1 h16 h51 h89 => ?_⟩,
    fun f s c v h hst hleaf hb => ?_, fun f s high v h hst hb => ?_⟩
  · exact exec_itemsRefused h hb hl fun u hu _ => answerWriteItems_busy (hu.trans hst)
  · exact exec_itemsRefused h hb hl fun u hu _ => by
      rw [answerWriteItems_inRange (by rwa [hu]) h1 h16 h51, hnone]
  · split_ifs with hgood
    · have hlen : ws.length = n.toNat := (length_writeValues hws).trans hl
      have hkept := finish_itemsAnswered (a := a) (n := n) (ws := ws) (s := s)
      exact ⟨_, exec_itemsAnswered h hb hl hst h1 h16 h51 hws hgood, finish_itemsAnswered_items, cabReply_itemsAnswered,
        hkept.consist, hkept.lead, hkept.seq, hkept.orders, hkept.inputs, hkept.stages,
        finish_itemsAnswered_doors h.atRest, fun h2 hn => finish_itemsAnswered_unnoticed h2 (by rwa [hlen])⟩
    · exact exec_itemsRefused h hb hl fun u hu hi => by
        rw [answerWriteItems_inRange (by rwa [hu]) h1 h16 h51, hws, hi]
        exact if_neg hgood
  · refine exec_itemsRefused h hb hl fun u hu _ => answerWriteItems_badItem (by rwa [hu]) ?_
    rintro ⟨h1, h16, h89⟩
    rcases hr with rfl | hr | hr
    · exact absurd h1 (by decide)
    · omega
    · omega
  · exact exec_itemsRefused h hb hl fun u hu _ => answerWriteItems_readOnly (by rwa [hu]) ⟨h1, h16, h89⟩ h51
  · have ha : (byteOf (Item.leafCount c)).toNat = Item.leafCount c := by cases c <;> rfl
    have hws : writeValues (byteOf (Item.leafCount c)).toNat [v] = some [wordItem (min 4 v.toNat)] := by
      rw [ha]; exact writeValues_one (writeValue_leafCount c v)
    have hitems : (finish (itemsAnswered (byteOf (Item.leafCount c)) 1 [wordItem (min 4 v.toNat)] s)).items =
        s.items.set (Item.leafCount c) (wordItem (min 4 v.toNat)) := by
      rw [finish_itemsAnswered_items, ha]; rfl
    have hbecomes := channelBecomes_itemsAnswered (c := c) (w := wordItem (min 4 v.toNat)) (n := 1) hleaf
    rw [writtenChannel_of_leafCount (leafCount_set c (by omega))] at hbecomes
    refine ⟨_, exec_itemsAnswered h hb rfl hst (by decide) (by decide) ?_ hws ?_, hitems, ?_⟩
    · rw [ha]; cases c <;> decide
    · cases c <;> rfl
    · rw [hitems]
      exact hbecomes
  · cases high with
    | false =>
      obtain ⟨t, hexec, hitems, hev, hrest⟩ := exec_noticesWritten (w := v) h hb hst (.inl rfl)
        (congrArg some BitVec.and_allOnes)
      refine ⟨t, hexec, hitems, fun ev => ?_, hrest⟩
      have hitem : (itemsSet 33 [v] s).item Item.noticeLow = v := getD_set_self _ _ _ (by decide)
      rw [hev, Bool.and_comm (s.condition ev)]
      show (s.present ev || (noticeWritten 33 1 (itemsSet 33 [v] s) ev && _)) = _
      rw [noticeWritten_low, hitem]
      rfl
    | true =>
      obtain ⟨t, hexec, hitems, hev, hrest⟩ := exec_noticesWritten (w := v &&& 0x000F#16) h hb hst (.inr rfl) rfl
      refine ⟨t, hexec, hitems, fun ev => ?_, hrest⟩
      have hitem : (itemsSet 34 [v &&& 0x000F#16] s).item Item.noticeHigh = v &&& 0x000F#16 :=
        getD_set_self _ _ _ (by decide)
      have hmask : (0x000F#16).getLsbD (eventBit ev - 16) = true := by cases ev <;> rfl
      rw [hev, Bool.and_comm (s.condition ev)]
      show (s.present ev || (noticeWritten 34 1 (itemsSet 34 [v &&& 0x000F#16] s) ev && _)) = _
      rw [noticeWritten_high, hitem, BitVec.getLsbD_and, hmask, Bool.and_true]
      rfl

end Sys2Proof.Machine
end

section
/-! The statements about the supply monitor, the raise schedule and the holdover (R140 to R143, R147, R148, R151,
R152). -/

namespace Sys2Proof.Machine

/-! ### The end of an event that has moved the heating unit (R146, R147, R150) -/

/-- An event that has kept the doors and owes no LEAD STATUS ends as the energizer leaves it (R124, R146). -/
theorem finish_of_settleHeat {s x m : State} {n : Nat} (hr : s.atRest) (hd : x.doors = s.doors)
    (hm : settleHeat (x.withScratch ⟨s.teff, false, none⟩) = m.withScratch ⟨n, false, none⟩)
    (hs : m.scratch = s.scratch) : finish (x.withScratch ⟨s.teff, false, none⟩) = m := by
  obtain ⟨hrest, htone, -, -⟩ := hr
  have htone' : x.doors.tone.isSome = x.toneDemand := by rw [toneDemand_congr hd, hd, htone]
  unfold finish
  rw [settleTone_of (s := x.withScratch ⟨s.teff, false, none⟩) htone', hm, flushStatus_of rfl, ← hrest, ← hs]
  rfl

/-- The end of an event that leaves the effective target as it was, and a schedule only towards a stage within it. -/
theorem finish_scheduled {s x : State} (hr : s.atRest) (hd : x.doors = s.doors) (ht : x.teff = s.teff)
    (hl : x.heat.level ≤ s.teff) (hra : x.heat.raise.isSome = true → x.heat.level < s.teff)
    (hs : x.scratch = s.scratch) : finish (x.withScratch ⟨s.teff, false, none⟩) = x := by
  rw [← ht] at hl hra
  exact finish_of_settleHeat hr hd (settleHeat_of (s := x.withScratch ⟨s.teff, false, none⟩) hl hra ht.symm) hs

/-- The energizer where an event makes no new schedule: the effective target has not risen above the energized level, or
is what it was, or the restart block is set (R146, R147, R150). -/
theorem settleHeat_unscheduled {s : State}
    (h : ¬ (s.teff > s.heat.level ∧ s.teff ≠ s.scratch.teff ∧ s.heat.restartBlock = false)) :
    let m := s.withScratch { s.scratch with teff := s.teff }
    settleHeat s = if s.teff < s.heat.level then dropTo s.teff m
      else if s.teff = s.heat.level then { m with heat := { m.heat with raise := none } } else m := by
  unfold settleHeat
  dsimp only
  rw [if_neg h]
  rfl

theorem startMinOff_getD (s : State) (lo hi : Nat) (i : Fin 4) : (startMinOff s lo hi).getD i none =
    if lo ≤ i ∧ i < hi then s.startOrExpired (s.itemN Item.minOff) else s.heat.minOff.getD i none := by
  fin_cases i <;> rfl

/-- Where no stage is de-energized no min-off timer starts (R148). -/
theorem startMinOff_none (s : State) (l : Nat) : startMinOff s l l = s.heat.minOff := by
  have hnone (i : Nat) : ¬ (l ≤ i ∧ i < l) := by omega
  simp only [startMinOff, hnone, if_false]
  obtain ⟨l, hl⟩ := s.heat.minOff
  match l, hl with
  | [_, _, _, _], _ => rfl

/-- The heating unit with every stage above the effective target off (R147). -/
def State.lowered (s : State) : Heat :=
  { s.heat with level := s.teff, minOff := startMinOff s s.teff s.heat.level, raise := none }

/-- An effective target that has not risen above the energized level: the stages above it drop, and no schedule is left
(R147). -/
theorem finish_lowered {s x : State} (hr : s.atRest) (hd : x.doors = s.doors) (h : x.teff ≤ x.heat.level)
    (hs : x.scratch = s.scratch) : finish (x.withScratch ⟨s.teff, false, none⟩) = { x with heat := x.lowered } := by
  refine finish_of_settleHeat (n := x.teff) hr hd ?_ hs
  refine (settleHeat_unscheduled (s := x.withScratch ⟨s.teff, false, none⟩) fun hc => Nat.not_lt.2 h hc.1).trans ?_
  rcases Nat.lt_or_eq_of_le h with hlt | heq
  · exact if_pos hlt
  · have hlowered : x.lowered = { x.heat with raise := none } := by rw [State.lowered, heq, startMinOff_none]
    rw [hlowered]
    exact (if_neg heq.not_lt).trans (if_pos heq)

/-- While the restart block is set no schedule is made, whatever the effective target has become (R150). -/
theorem finish_blocked {s x : State} (hr : s.atRest) (hd : x.doors = s.doors) (hb : x.heat.restartBlock = true)
    (hl : x.heat.level = 0) (hra : x.heat.raise = none) (hs : x.scratch = s.scratch) :
    finish (x.withScratch ⟨s.teff, false, none⟩) = x := by
  have hle : x.heat.level ≤ x.teff := by omega
  have hcleared : { x.heat with raise := none } = x.heat := by rw [← hra]
  refine finish_of_settleHeat (n := x.teff) hr hd ?_ hs
  refine (settleHeat_unscheduled (s := x.withScratch ⟨s.teff, false, none⟩)
    fun hc => Bool.false_ne_true (hc.2.2.symm.trans hb)).trans ((if_neg (Nat.not_lt.2 hle)).trans ?_)
  refine (ite_congr rfl (fun _ => ?_) fun _ => rfl).trans (ite_self _)
  show { x.withScratch ⟨x.teff, false, none⟩ with heat := { x.heat with raise := none } } = _
  rw [hcleared]; rfl

/-- Outside NORMAL the effective target is 0 (R144, R146). -/
theorem teff_of_not_normal {s : State} (h : s.heat.monitor ≠ .normal) : s.teff = 0 := by
  simp [State.teff, State.ceiling, State.capSup, h]

/-! ### The supply monitor (R140 to R143) -/

/-- A sample taken while the window is still filling (R140). -/
def filled (v : Nat) (s : State) : State :=
  { s with heat := { s.heat with window := s.heat.window ++ [v], sample := some (s.now + 10) } }

/-- A sample that leaves eight in the window, and V_avg after it (R140). -/
def averaged (v : Nat) (s : State) : State :=
  let w := s.heat.window.drop (s.heat.window.length - 7) ++ [v]
  { s with heat := { s.heat with window := w, vAvg := w.sum / 8, sample := some (s.now + 10) } }

theorem supplySample_filled {s : State} (v : Nat) (h : s.heat.window.length < 7) : supplySample v s = filled v s := by
  have hdrop : (s.heat.window ++ [v]).length - 8 = 0 := by simp; omega
  have hlen : (s.heat.window ++ [v]).length ≠ 8 := by simp; omega
  simp only [supplySample, hdrop, List.drop_zero, if_neg hlen]
  rfl

theorem supplySample_averaged {s : State} (v : Nat) (h : 7 ≤ s.heat.window.length) :
    supplySample v s = applyThresholds (averaged v s) := by
  have hdrop : (s.heat.window ++ [v]).drop ((s.heat.window ++ [v]).length - 8) =
      s.heat.window.drop (s.heat.window.length - 7) ++ [v] := by
    rw [List.length_append, List.length_singleton, List.drop_append_of_le_length (by omega)]
    congr 2
  have hlen : (s.heat.window.drop (s.heat.window.length - 7) ++ [v]).length = 8 := by simp; omega
  simp only [supplySample, hdrop, if_pos hlen]
  rfl

/-- In NORMAL the monitor enters SHED below shed_v (R142). -/
theorem applyThresholds_normal {s : State} (h : s.heat.monitor = .normal) :
    applyThresholds s = if s.heat.vAvg < s.itemN Item.shedV then enterShed s else s := by
  simp only [applyThresholds, h]

@[simp] theorem applyThresholds_withScratch (s : State) (c : Scratch) :
    applyThresholds (s.withScratch c) = (applyThresholds s).withScratch c := by
  have hheat : (s.withScratch c).heat = s.heat := rfl
  unfold applyThresholds
  rw [hheat]
  cases s.heat.monitor <;> exact withScratch_ite rfl rfl

/-- The monitor where it leaves SETTLING and SHED for NORMAL from restore_v on, and SETTLING for SHED below it (R140,
R143). -/
def monitorMoved (s : State) : State :=
  raiseIf (s.heat.monitor == .settling && !decide (s.itemN Item.restoreV ≤ s.heat.vAvg)) .supplyShed
    { s with heat := { s.heat with monitor := if s.itemN Item.restoreV ≤ s.heat.vAvg then .normal else .shed } }

/-- Outside NORMAL, under the restart block and with no schedule, nothing but the monitor moves. -/
theorem applyThresholds_blocked {s : State} (h : s.heat.monitor ≠ .normal) (hb : s.heat.restartBlock = true)
    (hra : s.heat.raise = none) : applyThresholds s = monitorMoved s := by
  have hshed : enterShed s = raise .supplyShed { s with heat := { s.heat with monitor := .shed } } := by
    rw [enterShed, ← hra, ← hb]
  cases hm : s.heat.monitor with
  | normal => exact absurd hm h
  | settling =>
    simp only [applyThresholds, monitorMoved, hm, hshed]
    by_cases hv : s.itemN Item.restoreV ≤ s.heat.vAvg <;> simp [hv, raiseIf, enterNormal]
  | shed =>
    have hstay : { s with heat := { s.heat with monitor := .shed } } = s := by rw [← hm]
    simp only [applyThresholds, monitorMoved, hm]
    by_cases hv : s.itemN Item.restoreV ≤ s.heat.vAvg <;> simp [hv, raiseIf, enterNormal, hstay]

theorem monitorMoved_heat (s : State) : (monitorMoved s).heat =
    { s.heat with monitor := if s.itemN Item.restoreV ≤ s.heat.vAvg then .normal else .shed } := raiseIf_heat _ _ _

theorem monitorMoved_present (s : State) (ev : Event) : (monitorMoved s).present ev =
    (s.present ev || (ev == .supplyShed && s.heat.monitor == .settling && (monitorMoved s).heat.monitor == .shed)) := by
  rw [monitorMoved_heat, monitorMoved, present_raiseIf]
  show (s.present ev || _) = _
  by_cases hv : s.itemN Item.restoreV ≤ s.heat.vAvg <;> simp [hv, Bool.and_comm]

theorem monitorMoved_rest (s : State) : { monitorMoved s with events := s.events, heat := s.heat } = s := by
  unfold monitorMoved raiseIf; split <;> rfl

/-- Outside NORMAL a node at rest has no stage energized and none due (R144, R147). -/
theorem State.atRest.unenergized {s : State} (hr : s.atRest) (h : s.heat.monitor ≠ .normal) :
    s.heat.level = 0 ∧ s.heat.raise = none := by
  obtain ⟨-, -, hl, hra⟩ := hr
  rw [teff_of_not_normal h] at hl hra
  cases hs : s.heat.raise with
  | none => exact ⟨Nat.le_zero.1 hl, rfl⟩
  | some r => exact absurd (hra (by rw [hs]; rfl)) (Nat.not_lt_zero _)

section sample

variable {s : State} {v : BitVec 12} {d : Nat}

theorem exec_supplySample (hlow : s.supplyLow = false) (hd : s.heat.sample = some d) : exec (.supplySample v) s =
    .next (finish (supplySample v.toNat ((s.reach d).withScratch ⟨s.teff, false, none⟩))) := by
  show event (onExpiry s.heat.sample _) s = _
  rw [event_of _ hlow, hd]; rfl

/-- A sample that fills the window decides the monitor's state. -/
theorem exec_supplySample_averaged (hlow : s.supplyLow = false) (hd : s.heat.sample = some d)
    (h : 7 ≤ s.heat.window.length) : exec (.supplySample v) s =
      .next (finish ((applyThresholds (averaged v.toNat (s.reach d))).withScratch ⟨s.teff, false, none⟩)) := by
  rw [exec_supplySample hlow hd, supplySample_averaged (s := (s.reach d).withScratch _) _ h,
    ← applyThresholds_withScratch]
  rfl

/-- A sample before the eighth moves nothing (R140). -/
theorem exec_supplySample_filled (hlow : s.supplyLow = false) (hr : s.atRest) (hd : s.heat.sample = some d)
    (h : s.heat.window.length < 7) : exec (.supplySample v) s = .next (filled v.toNat (s.reach d)) := by
  rw [exec_supplySample hlow hd, supplySample_filled (s := (s.reach d).withScratch _) _ h]
  exact congrArg Host.Outcome.next
    (finish_unmoved (t := filled v.toNat (s.reach d)) hr rfl rfl rfl rfl rfl)

/-- A sample in NORMAL with V_avg at or above shed_v moves no stage (R142). -/
theorem exec_supplySample_normal (hlow : s.supplyLow = false) (hr : s.atRest) (hd : s.heat.sample = some d)
    (hw : s.heat.window.length = 8) (hm : s.heat.monitor = .normal)
    (hv : ¬ (averaged v.toNat (s.reach d)).heat.vAvg < s.itemN Item.shedV) :
    exec (.supplySample v) s = .next (averaged v.toNat (s.reach d)) := by
  rw [exec_supplySample_averaged hlow hd (by omega), applyThresholds_normal (s := averaged v.toNat (s.reach d)) hm]
  exact congrArg Host.Outcome.next ((congrArg (fun x => finish (State.withScratch x _)) (if_neg hv)).trans
    (finish_unmoved (t := averaged v.toNat (s.reach d)) hr rfl rfl rfl rfl rfl))

/-- One with V_avg below it takes the monitor into SHED, and leaves no stage energized (R142, R147). -/
theorem exec_supplySample_shed (hlow : s.supplyLow = false) (hr : s.atRest) (hd : s.heat.sample = some d)
    (hw : s.heat.window.length = 8) (hm : s.heat.monitor = .normal)
    (hv : (averaged v.toNat (s.reach d)).heat.vAvg < s.itemN Item.shedV) :
    let x := enterShed (averaged v.toNat (s.reach d))
    exec (.supplySample v) s = .next { x with heat := x.lowered } ∧ x.lowered.level = 0 := by
  intro x
  have ht : x.teff = 0 := teff_of_not_normal (by simp [x, enterShed])
  refine ⟨?_, ht⟩
  rw [exec_supplySample_averaged hlow hd (by omega), applyThresholds_normal (s := averaged v.toNat (s.reach d)) hm]
  exact congrArg Host.Outcome.next ((congrArg (fun x => finish (State.withScratch x _)) (if_pos hv)).trans
    (finish_lowered (x := x) hr rfl (ht.trans_le (Nat.zero_le _)) rfl))

/-- One outside NORMAL moves the monitor alone: the restart block holds every stage off (R140, R143, R150). -/
theorem exec_supplySample_blocked (hlow : s.supplyLow = false) (hr : s.atRest) (hd : s.heat.sample = some d)
    (hw : 7 ≤ s.heat.window.length) (hm : s.heat.monitor ≠ .normal) (hb : s.heat.restartBlock = true) :
    exec (.supplySample v) s = .next (monitorMoved (averaged v.toNat (s.reach d))) := by
  obtain ⟨hl, hra⟩ := hr.unenergized hm
  rw [exec_supplySample_averaged hlow hd hw, applyThresholds_blocked (s := averaged v.toNat (s.reach d)) hm hb hra,
    finish_blocked (x := monitorMoved (averaged v.toNat (s.reach d))) hr (raiseIf_doors ..)
      (by rwa [monitorMoved_heat]) (by rwa [monitorMoved_heat]) (by rwa [monitorMoved_heat]) (raiseIf_scratch ..)]

end sample

/-- Settles O40: what a sample does to the average, to the monitor by the average, and to the stages by the monitor. -/
theorem supplySamplesShed : Obligations.SupplySamplesShed := by
  refine ⟨fun s v d hlow hr hd hm hw => ?_,
    fun s v d hlow hr hd _ hw => exec_supplySample_filled hlow hr hd hw,
    fun s v d hlow hr hd hm hb => ?_⟩
  · set x := averaged v.toNat (s.reach d) with hx
    have hwin : x.heat.window = s.heat.window.tail ++ [v.toNat] := by
      rw [← List.drop_one]; show s.heat.window.drop (s.heat.window.length - 7) ++ _ = _; rw [hw]
    have havg : x.heat.vAvg = (s.heat.window.tail ++ [v.toNat]).sum / 8 := congrArg (·.sum / 8) hwin
    by_cases hv : x.heat.vAvg < s.itemN Item.shedV
    · obtain ⟨hexec, hlevel⟩ := exec_supplySample_shed hlow hr hd hw hm hv
      exact ⟨_, hexec, hwin, havg, rfl, fun _ => ⟨rfl, hlevel, rfl, rfl, present_raise _ _, rfl⟩,
        fun h => absurd hv (Nat.not_lt.2 h), rfl⟩
    · exact ⟨x, exec_supplySample_normal hlow hr hd hw hm hv, hwin, havg, rfl, fun h => absurd h hv,
        fun _ => ⟨rfl, rfl⟩, rfl⟩
  · have hnormal : s.heat.monitor ≠ .normal := by rcases hm with ⟨h, -⟩ | ⟨h, -⟩ <;> rw [h] <;> decide
    have hw : 7 ≤ s.heat.window.length := by rcases hm with ⟨-, h⟩ | ⟨-, h⟩ <;> omega
    have hra := (hr.unenergized hnormal).2
    set x := averaged v.toNat (s.reach d) with hx
    have hheat := monitorMoved_heat x
    exact ⟨monitorMoved x, exec_supplySample_blocked hlow hr hd hw hnormal hb, by rw [hheat]; rfl, by rw [hheat]; rfl,
      by rw [hheat]; rfl, by rw [hheat]; exact hra, by rw [hheat]; rfl, monitorMoved_present x,
      by rw [hheat, ← hra]; rfl,
      congrArg (fun t : State => { t with now := s.now, heat := s.heat }) (monitorMoved_rest x)⟩

/-! ### The raise schedule (R148, R151) -/

/-- At rest a raise schedule has something to raise (R147, R150). -/
theorem State.atRest.below {s : State} (hr : s.atRest) {r : Raise} (h : s.heat.raise = some r) :
    s.heat.level < s.teff := by
  obtain ⟨-, -, -, hra⟩ := hr
  exact hra (by rw [h]; rfl)

/-- Stage e + 1 energized, and the next one due a stage gap later where the effective target is still above (R151). -/
def stageRaised (s : State) : State :=
  { s with heat := { s.heat with
    level := s.heat.level + 1
    raise := if s.heat.level + 1 < s.teff then some ⟨s.now + s.itemN Item.stageGap, false⟩ else none } }

theorem energize_below {s : State} (h : s.heat.level < s.teff) : energize s = stageRaised s := if_pos h

@[simp] theorem energize_withScratch (s : State) (c : Scratch) :
    energize (s.withScratch c) = (energize s).withScratch c := withScratch_ite rfl rfl

/-- The due stage is energized with its min-off timer expired, and waits while that timer runs (R151). -/
theorem stageDue_ready {s : State} (r : Raise) (hoff : s.heat.minOff.getD s.heat.level none = none)
    (h : s.heat.level < s.teff) : stageDue r s = stageRaised s :=
  (if_pos hoff).trans (energize_below h)

theorem stageDue_waits {s : State} {d : Nat} (r : Raise) (hoff : s.heat.minOff.getD s.heat.level none = some d) :
    stageDue r s = { s with heat := { s.heat with raise := some { r with waiting := true } } } :=
  if_neg (by rw [hoff]; exact Option.some_ne_none d)

@[simp] theorem stageDue_withScratch (s : State) (c : Scratch) (r : Raise) :
    stageDue r (s.withScratch c) = (stageDue r s).withScratch c :=
  withScratch_ite (energize_withScratch s c) rfl

theorem dueArrives_due {s : State} {r : Raise} (h : s.heat.raise = some r) (hw : r.waiting = false) :
    dueArrives s = stageDue r (s.reach r.due) := by
  simp [dueArrives, h, hw]

/-- The min-off timer of the stage at index `i` stopped. -/
def minOffStopped (i : Nat) (s : State) : State :=
  { s with heat := { s.heat with minOff := s.heat.minOff.set i none } }

/-- Its expiry stops it, and energizes the stage where that is the one that waits for it (R148, R151). -/
theorem minOffExpired_eq (i : Nat) (s : State) : minOffExpired i s =
    if s.heat.raise.any (·.waiting) = true ∧ i = s.heat.level then energize (minOffStopped i s)
    else minOffStopped i s := by
  unfold minOffExpired minOffStopped
  cases hr : s.heat.raise <;> simp [hr]

@[simp] theorem minOffExpired_withScratch (s : State) (c : Scratch) (i : Nat) :
    minOffExpired i (s.withScratch c) = (minOffExpired i s).withScratch c := by
  rw [minOffExpired_eq, minOffExpired_eq]
  exact withScratch_ite (energize_withScratch (minOffStopped i s) c) rfl

theorem minOffExpired_waiting {s : State} {r : Raise} {i : Nat} (h : s.heat.raise = some r) (hw : r.waiting = true)
    (hi : s.heat.level = i) (hl : s.heat.level < s.teff) : minOffExpired i s = stageRaised (minOffStopped i s) := by
  rw [minOffExpired_eq, if_pos ⟨by rw [h]; exact hw, hi.symm⟩, energize_below (s := minOffStopped i s) hl]

theorem minOffExpired_unawaited {s : State} {i : Nat}
    (h : ∀ r, s.heat.raise = some r → r.waiting = true → s.heat.level ≠ i) :
    minOffExpired i s = minOffStopped i s := by
  rw [minOffExpired_eq, if_neg]
  rintro ⟨hw, hi⟩
  cases hr : s.heat.raise with
  | none => rw [hr] at hw; cases hw
  | some r => rw [hr] at hw; exact h r hr hw hi.symm

section schedule

variable {s : State} {d : Nat}

/-- Nothing is settled after a stage has been energized within the effective target. -/
theorem finish_stageRaised {x : State} (hr : s.atRest) (hd : x.doors = s.doors) (ht : x.teff = s.teff)
    (hl : x.heat.level < s.teff) (hs : x.scratch = s.scratch) :
    finish ((stageRaised x).withScratch ⟨s.teff, false, none⟩) = stageRaised x := by
  refine finish_scheduled (x := stageRaised x) hr hd ht hl (fun h => ?_) hs
  have hra : (if x.heat.level + 1 < x.teff then some (⟨x.now + x.itemN Item.stageGap, false⟩ : Raise)
    else none).isSome = true := h
  split at hra
  · next hlt => exact ht ▸ hlt
  · cases hra

theorem exec_stageDue {r : Raise} (hlow : s.supplyLow = false) (h : s.heat.raise = some r) (hw : r.waiting = false) :
    exec .stageDue s = .next (finish ((stageDue r (s.reach r.due)).withScratch ⟨s.teff, false, none⟩)) := by
  show event dueArrives s = _
  rw [event_of _ hlow, dueArrives_due (s := begin s) h hw, ← stageDue_withScratch]
  rfl

theorem exec_minOffExpiry {i : Fin 4} (hlow : s.supplyLow = false) (hd : s.heat.minOff.getD i.val none = some d) :
    exec (.minOffExpiry i) s =
      .next (finish ((minOffExpired i.val (s.reach d)).withScratch ⟨s.teff, false, none⟩)) := by
  show event (onExpiry (s.heat.minOff.getD i.val none) _) s = _
  rw [event_of _ hlow, hd, ← minOffExpired_withScratch]
  rfl

end schedule

/-- Settles O41: the due stage energized, left waiting, energized as its wait ends, or not touched. -/
theorem stagesCloseWhenDue : Obligations.StagesCloseWhenDue := by
  refine ⟨fun s r hlow hr h hw hoff => ?_, fun s r d hlow hr h hw hoff => ?_,
    fun s r d i hlow hr h hw hi hd => ?_, fun s d i hlow hr hd hn => ?_⟩
  · have hbelow : s.heat.level < s.teff := hr.below h
    rw [exec_stageDue hlow h hw, stageDue_ready (s := s.reach r.due) r hoff hbelow,
      finish_stageRaised (x := s.reach r.due) hr rfl rfl hbelow rfl]
    rfl
  · obtain ⟨-, -, hle, -⟩ := id hr
    rw [exec_stageDue hlow h hw, stageDue_waits (s := s.reach r.due) r hoff]
    exact congrArg Host.Outcome.next (finish_scheduled (x := { s.reach r.due with heat := { s.heat with
      raise := some { r with waiting := true } } }) hr rfl rfl hle (fun _ => hr.below h) rfl)
  · have hbelow : s.heat.level < s.teff := hr.below h
    rw [exec_minOffExpiry hlow hd, minOffExpired_waiting (s := s.reach d) h hw hi hbelow,
      finish_stageRaised (x := minOffStopped i.val (s.reach d)) hr rfl rfl hbelow rfl]
    rfl
  · rw [exec_minOffExpiry hlow hd, minOffExpired_unawaited (s := s.reach d) hn,
      finish_unmoved (t := minOffStopped i.val (s.reach d)) hr rfl rfl rfl rfl rfl]
    rfl

/-! ### The holdover (R147, R148, R152) -/

/-- At rest the new target lies within the effective target that was, so that no cap lowers it further (R146, R152). -/
theorem teff_holdoverExpired {s : State} (hr : s.atRest) :
    (holdoverExpired s).teff = min s.heat.level (s.itemN Item.fallback) := by
  obtain ⟨-, -, hle, -⟩ := hr
  have hceiling : s.heat.level ≤ s.ceiling := hle.trans (Nat.min_le_right _ _)
  show min (min s.heat.level (s.itemN Item.fallback)) s.ceiling = _
  omega

/-- Settles O42: the new target is reached at once, and the stages above it drop. -/
theorem holdoverLowersTarget : Obligations.HoldoverLowersTarget := by
  intro s d hlow hr hd
  set x := holdoverExpired (s.reach d) with hx
  have ht : x.teff = min s.heat.level (s.itemN Item.fallback) := teff_holdoverExpired (s := s.reach d) hr
  have hexec : exec .holdoverExpiry s = .next { x with heat := x.lowered } := by
    show event (onExpiry s.heat.holdover holdoverExpired) s = _
    rw [event_of _ hlow, hd]
    exact congrArg Host.Outcome.next (finish_lowered (x := x) hr rfl (ht.trans_le (Nat.min_le_left _ _)) rfl)
  refine ⟨_, hexec, rfl, ht, rfl, rfl, present_raise _ _, fun hoff i => ?_, rfl⟩
  refine (startMinOff_getD x x.teff s.heat.level i).trans ?_
  rw [State.startOrExpired, if_neg (show ¬ x.itemN Item.minOff = 0 from hoff)]
  rfl

end Sys2Proof.Machine
end

section
/-! The statements about a NODE RESET and about a SUPPLY reset (R155, R156, R174, R179, R187, R189). -/

namespace Sys2Proof.Machine

/-! ### What a reset goes by (R188, R189) -/

/-- All of a state that shows after a reset: the store, the pins, the waiting commands and the identity (R189). -/
def State.resetView (s : State) : Responder × Tab InputLine 15 × List Instr × Identity :=
  (s.mgmt, s.inputs, s.pending, s.identity)

theorem resetView_setPort (s : State) (p : Port) (u : PortUnit) : (s.setPort p u).resetView = s.resetView := by
  simp only [State.resetView, setPort_mgmt, setPort_inputs, setPort_pending, setPort_identity]

theorem resetView_restartIdle (p : Port) (s : State) : (restartIdle p s).resetView = s.resetView := by
  cases p with
  | line e => simp only [restartIdle, State.resetView, setEnd_mgmt, setEnd_inputs, setEnd_pending, setEnd_identity]
  | cab => rfl

theorem resetView_lineError (p : Port) (s : State) : (lineError p s).resetView = s.resetView :=
  resetView_setPort s p _

theorem resetView_heard (p : Port) (s : State) : (heard p s).resetView = s.resetView := by
  simp only [State.resetView, heard_mgmt, heard_inputs, heard_pending, heard_identity]

theorem afterReset_congr {cause : ResetCause} {s u t : State} (h : u.resetView = s.resetView)
    (ht : AfterReset cause u t) : AfterReset cause s t := by
  simp only [State.resetView, Prod.mk.injEq] at h
  obtain ⟨hmgmt, hinputs, hpending, hidentity⟩ := h
  have himage : goodImage u = goodImage s := by unfold goodImage; rw [hmgmt]
  have hinput (i : Input) : u.input i = s.input i := by unfold State.input; rw [hinputs]
  simpa only [AfterReset, himage, hinput, hpending, hidentity] using ht

/-- A reset that begins and ends in one event leaves every block reset and its timers running (R187, R189). -/
theorem resetNode_afterReset (cause : ResetCause) {s u : State} (h : u.resetView = s.resetView) :
    AfterReset cause s (resetNode cause u) ∧ TimersFromEnd (resetNode cause u) :=
  ⟨afterReset_congr h (afterReset_resetEnd (resetBegin_afterReset cause u)), resetEnd_timersFromEnd _⟩

/-- A reset leaves no stage energized and nothing to heat towards (R155). -/
theorem heat_afterReset {cause : ResetCause} {s t : State} (h : AfterReset cause s t) :
    t.heat.level = 0 ∧ t.heat.target = 0 := by
  obtain ⟨-, -, -, -, -, -, -, -, -, -, -, -, hheat, -⟩ := h
  rw [hheat]
  exact ⟨rfl, rfl⟩

/-- Nothing is left to settle after a reset that ends in its own event (R124, R146). -/
theorem finish_resetNode (cause : ResetCause) (s : State) : finish (resetNode cause s) = resetNode cause s := by
  obtain ⟨hscratch, htone, hlevel, hraise⟩ := resetNode_atRest cause s
  have htarget := (heat_afterReset (resetNode_afterReset cause (rfl : s.resetView = _)).1).2
  have hteff : (resetNode cause s).teff = 0 := by unfold State.teff; rw [htarget]; exact Nat.zero_min _
  rw [finish_stable (by rw [hscratch]; rfl) htone hlevel hraise (by rw [hscratch, hteff]; rfl), ← hscratch]
  rfl

/-! ### A NODE RESET (R187) -/

/-- A NODE RESET on the cab port, whatever room its REPLY has there (R38, R40, R181). -/
theorem exec_nodeReset {f : LineFrame} {s : State} (h : Heard .cab (frameOf f .request [8]) s) (hdest : f.dest = 0)
    (hbody : f.body = []) (hm : s.mgmt.state ≠ .resetPending) : exec (.nodeReset .cab f) s =
      .next (finish (answerNodeReset .cab ((heard .cab s).withScratch ⟨s.teff, false, none⟩))) := by
  set u := (heard .cab s).withScratch ⟨s.teff, false, none⟩ with hu
  have hrespond : respond .cab [8] u = answerNodeReset .cab u :=
    respond_executes (by decide) (by rw [hu, withScratch_mgmt, heard_mgmt]; exact hm) (by decide)
  rw [exec_heard rfl h (by simp [frameOf]), ← hu, ← hrespond]
  cases hrole : u.lead.role <;>
    simp [relay, hrole, relayCabLead, relayCabOther, frameOf, hdest, hbody]

/-- A node whose DONE to a NODE RESET has joined the cab port's queue, and that waits for it to leave (R187). -/
def resetAwaited (s : State) : State :=
  State.enqueue { s with mgmt := { s.mgmt with state := .resetPending } } .cab
    ⟨replyFrame s.consist.position 8 .done [], defaultRate, true⟩

theorem resetAwaited_keepsUnits (s : State) : KeepsUnits s (resetAwaited s) :=
  enqueue_keepsUnits .cab _ { s with mgmt := { s.mgmt with state := .resetPending } }

theorem resetAwaited_withScratch (s : State) (c : Scratch) :
    resetAwaited (s.withScratch c) = (resetAwaited s).withScratch c := rfl

theorem hasSlot_iff (s : State) (p : Port) : s.hasSlot p = true ↔ s.roomFor p 1 := decide_eq_true_iff

/-- A NODE RESET pends with room for its DONE, and resets at once where that is discarded at a full queue. -/
theorem answerNodeReset_pends {s : State} (h : s.roomFor .cab 1) : answerNodeReset .cab s = resetAwaited s :=
  (if_pos ((hasSlot_iff s .cab).2 h)).trans
    (offerQueued_room (s := { s with mgmt := { s.mgmt with state := .resetPending } }) _ h)

theorem answerNodeReset_resets {s : State} (h : ¬ s.roomFor .cab 1) :
    answerNodeReset .cab s = resetNode .requested s :=
  if_neg ((hasSlot_iff s .cab).not.2 h)

section nodeReset

variable {f : LineFrame} {s : State}

theorem exec_nodeReset_pends (h : Heard .cab (frameOf f .request [8]) s) (hdest : f.dest = 0) (hbody : f.body = [])
    (hm : s.mgmt.state ≠ .resetPending) (hroom : s.roomFor .cab 1) :
    exec (.nodeReset .cab f) s = .next (resetAwaited (heard .cab s)) := by
  have hunits : KeepsUnits s (resetAwaited (heard .cab s)) :=
    (heard_keepsUnits .cab s).trans (resetAwaited_keepsUnits _)
  obtain ⟨hdoors, hheat, -, -, hscratch⟩ := id hunits
  rw [exec_nodeReset h hdest hbody hm, answerNodeReset_pends (by simpa using hroom), resetAwaited_withScratch,
    finish_unmoved h.2.1 hdoors hunits.teff (by rw [hheat]) (by rw [hheat]) hscratch]

theorem exec_nodeReset_resets (h : Heard .cab (frameOf f .request [8]) s) (hdest : f.dest = 0) (hbody : f.body = [])
    (hm : s.mgmt.state ≠ .resetPending) (hfull : ¬ s.roomFor .cab 1) :
    exec (.nodeReset .cab f) s = .next (resetNode .requested (heard .cab s)) := by
  rw [exec_nodeReset h hdest hbody hm, answerNodeReset_resets (by simpa using hfull), finish_resetNode]
  rfl

end nodeReset

theorem pendingReset_of {s : State} (h : s.mgmt.state = .resetPending) : pendingReset s = resetNode .requested s :=
  if_pos h

/-- The DONE that a NODE RESET waits for leaves its queue, and brings the reset (R187). -/
theorem popHead_resets {p : Port} {s : State} {q : Queued} {qs : List Queued} (h : (s.port p).queue = q :: qs)
    (hq : q.resetReply = true) (hm : s.mgmt.state = .resetPending) :
    ∃ u, popHead p s = resetNode .requested u ∧ u.resetView = s.resetView := by
  set u := restartIdle p (s.setPort p { s.port p with queue := qs, attempt := 1, sending := none }) with hu
  have hview : u.resetView = s.resetView := (resetView_restartIdle p _).trans (resetView_setPort s p _)
  have hpend : u.mgmt.state = .resetPending := (congrArg (·.1.state) hview).trans hm
  refine ⟨u, ?_, hview⟩
  rw [← pendingReset_of hpend]
  simp [popHead, h, hq, hu]

/-- Settles O54: the reset waits for its DONE, comes as that leaves the queue, and comes at once where there is no DONE
or REQUESTED_RESET is given. -/
theorem nodeResetFollowsItsReply : Obligations.NodeResetFollowsItsReply := by
  refine ⟨fun f s h hdest hbody hm => ⟨fun hroom => ?_, fun hfull => ?_⟩,
    fun p s q qs r hlow hm hq hsending hreply => ⟨?_, fun ha => ?_⟩, fun s hlow hm => ?_⟩
  · rw [← heard_cab_consist s, ← heard_mgmt .cab s]
    exact ⟨_, exec_nodeReset_pends h hdest hbody hm hroom, queues_enqueue .., onlyPorts_enqueue ..⟩
  · exact ⟨_, exec_nodeReset_resets h hdest hbody hm hfull, resetNode_afterReset _ (resetView_heard .cab s)⟩
  · obtain ⟨u, hpop, hview⟩ := popHead_resets hq hreply hm
    refine ⟨_, ?_, resetNode_afterReset _ hview⟩
    show plainEvent (sent p) s = _
    rw [plainEvent_of _ hlow, sent_head hsending, hpop]
  · have herror : (lineError p s).resetView = s.resetView := resetView_lineError p s
    have hqueue : ((lineError p s).port p).queue = q :: qs := by rw [lineError_port]; exact hq
    obtain ⟨u, hpop, hview⟩ := popHead_resets hqueue hreply ((congrArg (·.1.state) herror).trans hm)
    refine ⟨_, ?_, resetNode_afterReset _ (hview.trans herror)⟩
    show plainEvent (collide p) s = _
    rw [plainEvent_of _ hlow, collide_discarded hsending ha, hpop]
  · refine ⟨_, ?_, resetNode_afterReset _ rfl⟩
    show plainEvent pendingReset s = _
    rw [plainEvent_of _ hlow, pendingReset_of hm]

/-! ### A SUPPLY reset (R155, R174, R189) -/

theorem resetBegin_supplyLow (cause : ResetCause) (s : State) :
    (resetBegin cause s).supplyLow = decide (cause = .supply) := by
  rw [resetBegin, raiseIf_supplyLow]; rfl

/-- No stability timer runs before the end of a reset (R173). -/
theorem resetBegin_timer (cause : ResetCause) (s : State) (i : Input) :
    ((resetBegin cause s).input i).timer = none := by
  have hinputs : (resetBegin cause s).inputs = s.inputs.map (fun l => ⟨l.raw, none, none⟩) := by
    rw [resetBegin, raiseIf_inputs]; rfl
  rw [input_map hinputs]

/-- While a SUPPLY reset lasts every output is off (R174, R189). -/
theorem output_of_supplyLow {s : State} (h : s.supplyLow = true) (o : Output) : s.output o = false := by
  unfold State.output; rw [h]; rfl

/-- A channel that a reset has left is in ISOLATED or in FAULT (R108). -/
theorem channel_afterReset {cause : ResetCause} {s t : State} (h : AfterReset cause s t) (c : Side) :
    (t.channel c).state = .isolated ∨ (t.channel c).state = .fault := by
  obtain ⟨-, -, -, -, -, -, -, -, -, -, -, hdoors, -⟩ := h
  have hreset (n : Nat) : (Channel.reset n).state = .isolated ∨ (Channel.reset n).state = .fault := by
    unfold Channel.reset; split
    · exact .inl rfl
    · exact .inr rfl
  unfold State.channel
  rw [hdoors]
  cases c <;> exact hreset _

/-- So neither door output of a channel is on, and no stage is energized (R106, R155). -/
theorem outputs_afterReset {cause : ResetCause} {s t : State} (h : AfterReset cause s t) (hlow : t.supplyLow = false) :
    (∀ c, t.output (.release c) = false ∧ t.output (.close c) = false) ∧ ∀ n, t.output (.heat n) = false := by
  refine ⟨fun c => ?_, fun n => ?_⟩
  · rw [output_release c hlow, output_close c hlow]
    rcases channel_afterReset h c with hc | hc <;> rw [hc] <;> exact ⟨rfl, rfl⟩
  · simp [State.output, hlow, (heat_afterReset h).1]

theorem setInput_input (s : State) (i : Input) : s.setInput i (s.input i) = s := by
  obtain ⟨hi, hget⟩ := List.getElem?_eq_some_iff.1 (inputs_getElem? s i)
  have hset : s.inputs.set (inputIndex i) (s.input i) = s.inputs := by
    unfold Tab.set
    congr 1
    rw [← hget, List.set_getElem_self]
  unfold State.setInput
  rw [hset]

/-- While a SUPPLY reset lasts an edge moves the level at its pin alone (R172, R189; log 14). -/
theorem rawEdgeAt_supplyLow {s : State} (h : s.supplyLow = true) (i : Input) (a : Bool) :
    rawEdgeAt i a s = s.setInput i { s.input i with raw := a } := by
  by_cases ha : a = (s.input i).raw
  · subst ha
    exact (if_pos rfl).trans (setInput_input s i).symm
  · simp [rawEdgeAt, ha, h]

/-- While a SUPPLY reset lasts an event, plain or not, changes nothing (R189; log 14). -/
theorem plainEvent_supplyLow {s : State} (f : State → State) (h : s.supplyLow = true) : plainEvent f s = .next s := by
  simp [plainEvent, h]

/-- So no command but the three of the supply and the pins does anything (R189; log 14). -/
theorem exec_supplyLow {c : Instr} {s : State} (h : s.supplyLow = true) (habove : c ≠ .supplyAboveUpperThreshold)
    (hreset : c ≠ .supplyReset) (hedge : ∀ i a, c ≠ .rawEdge i a) : exec c s = .next s := by
  cases ha : c.arriving with
  | some a =>
    rcases exec_arriving (p := a.1) (f := a.2) ha s with ⟨-, e⟩ | e <;> rw [e]
    · exact plainEvent_supplyLow _ h
    · exact event_supplyLow _ h
  | none =>
    cases c
    all_goals simp only [Instr.arriving, reduceCtorEq] at ha
    case supplyAboveUpperThreshold => exact absurd rfl habove
    case supplyReset => exact absurd rfl hreset
    case rawEdge i a => exact absurd rfl (hedge i a)
    case syncCharacter | syncError | parityError | lengthError | gapError | checkError | returnToHunt | lineBreak |
        lineHoldWatchArmed | lineHoldReset | lockTimerExpiry | silenceTimerExpiry | idleTimerExpiry | transmitStart |
        transmitComplete | collision | storeTimerExpiry | requestedReset | leadLossExpiry | holdOffExpiry =>
      exact plainEvent_supplyLow _ h
    all_goals exact event_supplyLow _ h

/-- Settles O56: a SUPPLY reset from its start to its end, and what each command does while it lasts. -/
theorem supplyResetLastsUntilSupplyReturns : Obligations.SupplyResetLastsUntilSupplyReturns := by
  have hlasts (s : State) : (resetBegin .supply s).supplyLow = true := resetBegin_supplyLow .supply s
  refine ⟨fun s => ?_, fun c s hlow habove => ?_⟩
  · have hbegun := resetBegin_afterReset .supply s
    have hended := afterReset_resetEnd hbegun
    obtain ⟨hdoors, hheat⟩ := outputs_afterReset hended rfl
    refine ⟨_, resetEnd (resetBegin .supply s), rfl, hlasts s, output_of_supplyLow (hlasts s), hbegun,
      resetBegin_timer .supply s, ?_, rfl, hended, resetEnd_timersFromEnd _, hdoors, hheat⟩
    exact congrArg Host.Outcome.next (if_pos (hlasts s))
  · by_cases hreset : c = .supplyReset
    · subst hreset
      exact ⟨_, rfl, hlasts s, output_of_supplyLow (hlasts s), fun _ _ h => (nomatch h), fun h => absurd rfl h⟩
    · by_cases hedge : ∃ i a, c = .rawEdge i a
      · obtain ⟨i, a, rfl⟩ := hedge
        refine ⟨_, congrArg Host.Outcome.next (rawEdgeAt_supplyLow hlow i a), hlow, output_of_supplyLow hlow,
          fun j b h => ?_, fun _ h => absurd rfl (h i a)⟩
        cases h; rfl
      · have hne (i : Input) (a : Bool) : c ≠ .rawEdge i a := fun h => hedge ⟨i, a, h⟩
        exact ⟨s, exec_supplyLow hlow habove hreset hne, hlow, output_of_supplyLow hlow,
          fun i a h => absurd h (hne i a), fun _ _ => rfl⟩

end Sys2Proof.Machine
end

section
/-! The pass computation in full (R163 to R167): the stage granted, the shortfall counted, or the pass left as it was. -/

namespace Sys2Proof.Machine

/-! ### What the pass computation reads (R163 to R166) -/

/-- The state with another cycle record and grant. -/
def State.withRecord (s : State) (r : Option Byte) (g : Nat) : State :=
  { s with heat := { s.heat with cycleRec := r, grant := g } }

/-- The stages that the node holds in a cycle: none where its record is of another one (R163). -/
def State.heldIn (s : State) (cycle : Byte) : Nat := if s.heat.cycleRec = some cycle then s.heat.grant else 0

theorem heldIn_same {s : State} {cycle : Byte} (h : s.heat.cycleRec = some cycle) :
    s.heldIn cycle = s.heat.grant := if_pos h

theorem heldIn_other {s : State} {cycle : Byte} (h : s.heat.cycleRec ≠ some cycle) : s.heldIn cycle = 0 := if_neg h

/-- The node with its record begun by a pass of level 1 (R163). -/
def recordBegun (d : PassData) (s : State) : State :=
  if d.level.toNat = 1 ∧ d.demand.toNat ≤ 4 then s.withRecord (some d.cycle) (s.heldIn d.cycle) else s

/-- A pass asks the node for a stage: the coach is eligible for its level, and holds the level below in its cycle (R164,
R167). -/
structure PassData.Asks (d : PassData) (s : State) : Prop where
  demand : d.demand.toNat ≤ 4
  eligible : d.level.toNat ≤ s.eligible d.demand.toNat
  below : s.heldIn d.cycle + 1 = d.level.toNat

/-- A pass that the node reckons with at all (R163, R164). -/
structure PassData.Reckoned (d : PassData) (s : State) : Prop where
  one_le : 1 ≤ d.level.toNat
  le_four : d.level.toNat ≤ 4
  demand : d.demand.toNat ≤ 4
  record : d.level.toNat = 1 ∨ s.heat.cycleRec = some d.cycle

section

variable {d : PassData} {s : State}

theorem recordBegun_of_ne_one (h : d.level.toNat ≠ 1) : recordBegun d s = s := if_neg fun hc => h hc.1

theorem recordBegun_first (h : d.level.toNat = 1) (hd : d.demand.toNat ≤ 4) :
    recordBegun d s = s.withRecord (some d.cycle) (s.heldIn d.cycle) := if_pos ⟨h, hd⟩

theorem PassData.Asks.reckoned (h : d.Asks s) : d.Reckoned s where
  one_le := by have := h.below; omega
  le_four := h.eligible.trans ((Nat.min_le_left _ _).trans h.demand)
  demand := h.demand
  record := by
    by_cases hr : s.heat.cycleRec = some d.cycle
    · exact .inr hr
    · have hb := h.below
      rw [heldIn_other hr] at hb
      exact .inl hb.symm

/-- In the cycle that its record is of, the node holds what the record says. -/
theorem withRecord_heldIn (h : s.heat.cycleRec = some d.cycle) :
    s.withRecord (some d.cycle) (s.heldIn d.cycle) = s := by
  rw [heldIn_same h, ← h]; rfl

theorem PassData.Reckoned.recordBegun (h : d.Reckoned s) :
    recordBegun d s = s.withRecord (some d.cycle) (s.heldIn d.cycle) := by
  rcases h.record with h1 | hr
  · exact recordBegun_first h1 h.demand
  · by_cases h1 : d.level.toNat = 1
    · exact recordBegun_first h1 h.demand
    · rw [recordBegun_of_ne_one h1, withRecord_heldIn hr]

/-! ### The pass computation (R163 to R167) -/

theorem level_eq_one_iff : d.level = 1 ↔ d.level.toNat = 1 := BitVec.toNat_eq

theorem updateRecord_reckoned (h : d.Reckoned s) : updateRecord d s = (recordBegun d s, true) := by
  unfold updateRecord
  by_cases hr : s.heat.cycleRec = some d.cycle
  · rw [h.recordBegun, withRecord_heldIn hr, hr]
    simp
  · have h1 : d.level = 1 := level_eq_one_iff.2 (h.record.resolve_right hr)
    rw [h.recordBegun, heldIn_other hr, if_pos h1, if_neg hr]
    rfl

theorem computePass_reckoned (h : d.Reckoned s) : computePass d s = decideGrant d (recordBegun d s) := by
  unfold computePass
  rw [if_pos ⟨h.one_le, h.le_four, h.demand⟩, updateRecord_reckoned h]

theorem computePass_unreckoned (h : ¬ d.Reckoned s) : computePass d s = (d, s) := by
  unfold computePass
  split
  · next hin =>
    have hr : ¬ (d.level.toNat = 1 ∨ s.heat.cycleRec = some d.cycle) := fun hr => h ⟨hin.1, hin.2.1, hin.2.2, hr⟩
    have hu : updateRecord d s = (s, false) := by
      unfold updateRecord
      rw [if_neg fun h1 => hr (.inl (level_eq_one_iff.1 h1)), decide_eq_false fun hc => hr (.inr hc)]
    rw [hu]
  · rfl

/-- The stage is granted out of the residual (R167). -/
theorem computePass_granted (h : d.Asks s) (hc : s.scaledCurrent d.level.toNat ≤ d.residual.toNat) :
    computePass d s =
      ({ d with
          residual := d.residual - wordItem (s.scaledCurrent d.level.toNat), granted := satIncByte d.granted },
       s.withRecord (some d.cycle) d.level.toNat) := by
  rw [computePass_reckoned h.reckoned, h.reckoned.recordBegun]
  unfold decideGrant
  rw [if_pos ⟨h.eligible, h.below⟩]
  exact if_pos hc

/-- The residual does not cover the stage, and a shortfall is counted (R167). -/
theorem computePass_short (h : d.Asks s) (hc : d.residual.toNat < s.scaledCurrent d.level.toNat) :
    computePass d s = ({ d with shortfall := satIncByte d.shortfall }, recordBegun d s) := by
  rw [computePass_reckoned h.reckoned, h.reckoned.recordBegun]
  unfold decideGrant
  rw [if_pos ⟨h.eligible, h.below⟩]
  exact if_neg (Nat.not_le.2 hc)

/-- A pass that asks for no stage goes on as received (R164, R167). -/
theorem computePass_left (h : ¬ d.Asks s) : computePass d s = (d, recordBegun d s) := by
  by_cases hr : d.Reckoned s
  · rw [computePass_reckoned hr, hr.recordBegun]
    unfold decideGrant
    exact if_neg fun hc => h ⟨hr.demand, hc.1, hc.2⟩
  · rw [computePass_unreckoned hr, recordBegun, if_neg]
    rintro ⟨h1, hd⟩
    exact hr ⟨h1.ge, by omega, hd, .inl h1⟩

/-- Everything that a pass can come to. -/
theorem computePass_cases (d : PassData) (s : State) :
    (d.Asks s ∧ s.scaledCurrent d.level.toNat ≤ d.residual.toNat ∧ computePass d s =
      ({ d with
          residual := d.residual - wordItem (s.scaledCurrent d.level.toNat), granted := satIncByte d.granted },
       s.withRecord (some d.cycle) d.level.toNat)) ∨
    (d.Asks s ∧ d.residual.toNat < s.scaledCurrent d.level.toNat ∧
      computePass d s = ({ d with shortfall := satIncByte d.shortfall }, recordBegun d s)) ∨
    (¬ d.Asks s ∧ computePass d s = (d, recordBegun d s)) := by
  by_cases h : d.Asks s
  · rcases Nat.lt_or_ge d.residual.toNat (s.scaledCurrent d.level.toNat) with hc | hc
    · exact .inr (.inl ⟨h, hc, computePass_short h hc⟩)
    · exact .inl ⟨h, hc, computePass_granted h hc⟩
  · exact .inr (.inr ⟨h, computePass_left h⟩)

end

/-! ### What a pass reads and leaves -/

/-- The eligible level reads doors, heating, inputs and items only (R164). -/
theorem eligible_congr {s t : State} (hd : t.doors = s.doors) (hh : t.heat = s.heat) (hi : t.inputs = s.inputs)
    (hm : t.items = s.items) (n : Nat) : t.eligible n = s.eligible n := by
  unfold State.eligible State.ceiling State.enabledStages State.capTh State.capDoor State.capSup State.doorsSecured
    State.secured State.channel State.inactive State.input State.itemN State.item
  rw [hd, hh, hi, hm]

/-- The scaled current reads heating and items only (R165, R166). -/
theorem scaledCurrent_congr {s t : State} (hh : t.heat = s.heat) (hm : t.items = s.items) (l : Nat) :
    t.scaledCurrent l = s.scaledCurrent l := by
  unfold State.scaledCurrent State.voltageUsed State.itemN State.item
  rw [hh, hm]

/-- In a state with the same units a pass comes to the same, and changes the heating unit alone. -/
theorem computePass_congr {s t : State} (d : PassData) (hd : t.doors = s.doors) (hh : t.heat = s.heat)
    (hi : t.inputs = s.inputs) (hm : t.items = s.items) :
    computePass d t = ((computePass d s).1, { t with heat := (computePass d s).2.heat }) := by
  have hcurrent := scaledCurrent_congr hh hm d.level.toNat
  have hheld : t.heldIn d.cycle = s.heldIn d.cycle := by unfold State.heldIn; rw [hh]
  have hasks : d.Asks t ↔ d.Asks s := by
    have he := eligible_congr hd hh hi hm d.demand.toNat
    exact ⟨fun ⟨h1, h2, h3⟩ => ⟨h1, he ▸ h2, hheld ▸ h3⟩, fun ⟨h1, h2, h3⟩ => ⟨h1, he ▸ h2, hheld ▸ h3⟩⟩
  have hbegun : recordBegun d t = { t with heat := (recordBegun d s).heat } := by
    unfold recordBegun
    split
    · rw [State.withRecord, hheld, hh]; rfl
    · rw [← hh]
  rcases computePass_cases d s with ⟨ha, hc, e⟩ | ⟨ha, hc, e⟩ | ⟨ha, e⟩ <;> rw [e]
  · rw [computePass_granted (hasks.2 ha) (by rwa [hcurrent]), hcurrent, State.withRecord, hh]; rfl
  · rw [computePass_short (hasks.2 ha) (by rwa [hcurrent]), hbegun]
  · rw [computePass_left (mt hasks.1 ha), hbegun]

/-- A pass leaves the heating unit as it was, but for the cycle record (R163, R167). -/
theorem computePass_heat (d : PassData) (s : State) : { (computePass d s).2.heat with
    cycleRec := s.heat.cycleRec, grant := s.heat.grant } = s.heat := by
  obtain ⟨r, g, h⟩ := computePass_eq d s
  rw [h]

/-- The counts of a pass saturate at 255 (R167). -/
theorem satIncByte_toNat (b : Byte) : (satIncByte b).toNat = min 255 (b.toNat + 1) := by
  revert b; decide

theorem le_satIncByte (b : Byte) : b ≤ satIncByte b := by
  rw [BitVec.le_def, satIncByte_toNat]
  have := b.isLt
  omega

/-- What is taken out of a residual that covers it. -/
theorem sub_wordItem_toNat {w : Word} {n : Nat} (h : n ≤ w.toNat) : (w - wordItem n).toNat + n = w.toNat := by
  have hw := w.isLt
  have hn : (wordItem n).toNat = n := by
    rw [wordItem, BitVec.toNat_ofNat]; exact Nat.mod_eq_of_lt (by omega)
  rw [BitVec.toNat_sub_of_le (by rw [BitVec.le_def, hn]; exact h), hn]
  omega

/-- A residual sent out reads back (R17, R20). -/
theorem passData_payload_residual (d : PassData) : wordAt d.payload 2 = d.residual := wordAt_wordBytes d.residual []

/-- Cycle number, level and demand go on as received, and the counts never fall (R163, R167). -/
theorem computePass_passedOn (d : PassData) (s : State) : (computePass d s).1.cycle = d.cycle ∧
    (computePass d s).1.level = d.level ∧ (computePass d s).1.demand = d.demand ∧
    d.granted ≤ (computePass d s).1.granted ∧ d.shortfall ≤ (computePass d s).1.shortfall := by
  have hle (b : Byte) : b ≤ b := BitVec.le_refl b
  rcases computePass_cases d s with ⟨-, -, e⟩ | ⟨-, -, e⟩ | ⟨-, e⟩ <;> rw [e]
  · exact ⟨rfl, rfl, rfl, le_satIncByte _, hle _⟩
  · exact ⟨rfl, rfl, rfl, hle _, le_satIncByte _⟩
  · exact ⟨rfl, rfl, rfl, hle _, hle _⟩

/-! ### A pass in the words of R163 to R168 -/

section

variable {d : PassData} {s : State}

/-- A node that holds the level below in the cycle of its record. -/
theorem PassData.Asks.of_held (hd : d.demand.toNat ≤ 4) (he : d.level.toNat ≤ s.eligible d.demand.toNat)
    (hr : s.heat.cycleRec = some d.cycle) (hg : s.heat.grant + 1 = d.level.toNat) : d.Asks s :=
  ⟨hd, he, by rw [heldIn_same hr]; exact hg⟩

/-- A node that holds nothing, in a cycle that begins or in the one of its record. -/
theorem PassData.Asks.of_first (hd : d.demand.toNat ≤ 4) (he : 1 ≤ s.eligible d.demand.toNat) (h1 : d.level.toNat = 1)
    (hr : s.heat.cycleRec ≠ some d.cycle ∨ s.heat.grant = 0) : d.Asks s := by
  refine ⟨hd, by rwa [h1], ?_⟩
  rw [h1, State.heldIn]
  split
  · next hc => rw [hr.resolve_left (not_not_intro hc)]
  · rfl

theorem computePass_grants {L : Nat} (hL : d.level.toNat = L) (h : d.Asks s)
    (hc : s.scaledCurrent L ≤ d.residual.toNat) : (computePass d s).2.heat.grant = L ∧
      (computePass d s).1.residual.toNat + s.scaledCurrent L = d.residual.toNat ∧
      (computePass d s).1.granted.toNat = min 255 (d.granted.toNat + 1) ∧
      (computePass d s).1.shortfall = d.shortfall := by
  subst hL
  rw [computePass_granted h hc]
  exact ⟨rfl, sub_wordItem_toNat hc, satIncByte_toNat _, rfl⟩

theorem computePass_lacks {L : Nat} (hL : d.level.toNat = L) (h : d.Asks s)
    (hc : d.residual.toNat < s.scaledCurrent L) : (computePass d s).2.heat.grant + 1 = L ∧
      (computePass d s).1.residual = d.residual ∧ (computePass d s).1.granted = d.granted ∧
      (computePass d s).1.shortfall.toNat = min 255 (d.shortfall.toNat + 1) := by
  subst hL
  rw [computePass_short h hc, h.reckoned.recordBegun]
  exact ⟨h.below, rfl, rfl, satIncByte_toNat _⟩

/-- A residual or a count of grants that has changed shows a stage granted in this pass. -/
theorem computePass_changed {L : Nat} (hL : d.level.toNat = L)
    (h : (computePass d s).1.residual ≠ d.residual ∨ (computePass d s).1.granted ≠ d.granted) :
    (computePass d s).1.residual.toNat + s.scaledCurrent L = d.residual.toNat ∧ (computePass d s).2.heat.grant = L ∧
      L ≤ s.eligible d.demand.toNat := by
  rcases computePass_cases d s with ⟨ha, hc, -⟩ | ⟨-, -, e⟩ | ⟨-, e⟩
  · subst hL
    obtain ⟨hgrant, hresidual, -⟩ := computePass_grants rfl ha hc
    exact ⟨hresidual, hgrant, ha.eligible⟩
  all_goals
    rw [e] at h
    exact (h.elim (· rfl) (· rfl)).elim

/-- A pass of level 1 begins the record of its cycle (R163). -/
theorem computePass_begins (h1 : d.level.toNat = 1) (hd : d.demand.toNat ≤ 4) :
    (computePass d s).2.heat.cycleRec = some d.cycle := by
  rcases computePass_cases d s with ⟨-, -, e⟩ | ⟨-, -, e⟩ | ⟨-, e⟩ <;> rw [e]
  · rfl
  · rw [recordBegun_first h1 hd]; rfl
  · rw [recordBegun_first h1 hd]; rfl

end

end Sys2Proof.Machine
end

section
/-! The statement about a HEAT PASS at a node in PLACED or STALE (R27, R28, R31, R163 to R168). -/

namespace Sys2Proof.Machine

/-! ### A HEAT PASS at the relay engine (R27, R163) -/

/-- The HEAT PASS that a node sends on for the one received (R168). -/
def passedFrame (f : LineFrame) (s : State) : Frame :=
  { frameOf f .heatPass [] with payload := (computePass (PassData.ofPayload f.body) s).1.payload }

/-- The node that has heard a HEAT PASS, handed its source on, and reckoned its own part (R27, R163). -/
def passTaken (e : End) (f : LineFrame) (s : State) : State :=
  { handSource f.src (heard (.line e) s) with heat := (computePass (PassData.ofPayload f.body) s).2.heat }

section passTaken

variable (e : End) (f : LineFrame) (s : State)

@[simp] theorem port_passTaken (p : Port) : (passTaken e f s).port p = (heard (.line e) s).port p :=
  (show (passTaken e f s).port p = (handSource f.src (heard (.line e) s)).port p by
    rcases p with (_ | _) | _ <;> rfl).trans (port_handSource _ _ p)

@[simp] theorem passTaken_alive : (passTaken e f s).alive e.other = s.alive e.other :=
  (show _ = (handSource f.src (heard (.line e) s)).alive e.other by cases e <;> rfl).trans (by simp)

@[simp] theorem passTaken_consist : (passTaken e f s).consist = (handSource f.src (heard (.line e) s)).consist := rfl

end passTaken

/-- A HEAT PASS at a node in PLACED or STALE (R27). -/
theorem actHeatPass_computes {s : State} (f : Frame) (h : s.placedOrStale = true) : actHeatPass f s =
    ({ f with payload := (computePass (PassData.ofPayload f.payload) s).1.payload },
      (computePass (PassData.ofPayload f.payload) s).2) := if_pos h

theorem actHeatPass_heard {e : End} {f : LineFrame} {s : State} (hal : s.alive e = true) (hps : s.placedOrStale = true)
    (c : Scratch) : actHeatPass (frameOf f .heatPass []) ((handSource f.src (heard (.line e) s)).withScratch c) =
      (passedFrame f s, (passTaken e f s).withScratch c) := by
  obtain ⟨hd, hh, hi, hm, -⟩ := (heard_keepsUnits (.line e) s).trans (handSource_keepsUnits f.src _)
  have hps' : (handSource f.src (heard (.line e) s)).placedOrStale = true := by
    rw [handSource_eq, State.placedOrStale, heard_consist_of_alive hal]; exact hps
  rw [actHeatPass_computes (s := (handSource f.src (heard (.line e) s)).withScratch c) _ hps',
    computePass_congr (t := (handSource f.src (heard (.line e) s)).withScratch c) _ hd hh hi hm]
  rfl

/-- The command at a node in PLACED or STALE: the pass reckoned and sent on (R27, R28, R31). -/
theorem exec_heatPass {e : End} {f : LineFrame} {s : State} (h : Heard (.line e) (frameOf f .heatPass []) s)
    (hal : s.alive e = true) (hps : s.placedOrStale = true) (he : s.consist.leadEnd = some e)
    (hrole : s.lead.role = false) (hacc : acceptedOnEnd (frameOf f .heatPass []) = true)
    (hl : (frameOf f .heatPass []).leadward = false) (hroom : s.roomFor (.line e) 1)
    (hroom' : s.roomFor (.line e.other) 1) :
    exec (.heatPass (.line e) f) s = .next (swept e (passedFrame f s) (s.rateAt (.line e)) (passTaken e f s)) := by
  have hp := holdsPosition_of_placedOrStale hps
  obtain ⟨hd, -, hi, hm, hs⟩ := (heard_keepsUnits (.line e) s).trans (handSource_keepsUnits f.src _)
  have hvroom {x : End} (hr : s.roomFor (.line x) 1) (c : Scratch) :
      ((passTaken e f s).withScratch c).roomFor (.line x) 1 := by
    rw [withScratch_roomFor]; unfold State.roomFor at *; rwa [port_passTaken, heard_queue]
  have hvp : (passTaken e f s).holdsPosition = true :=
    (handSource_holdsPosition _ _).trans ((heard_holdsPosition _ s).trans hp)
  have hve : (passTaken e f s).consist.leadEnd = some e :=
    (handSource_leadEnd _ _).trans ((heard_leadEnd _ s).trans he)
  refine exec_heard_unmoved rfl h (kind_ne_idle_of_accepted hacc) (fun c => ?_) ?_ ?_ ?_ ?_ ?_
  · rw [relay_outward _ (by simpa using hp) hacc (by simp [frameOf]) hl (by simpa using he) (by simpa using hrole)]
    show sweep actHeatPass _ _ (handSource f.src _) = _
    rw [handSource_withScratch, sweep, actHeatPass_heard hal hps, ← swept_withScratch]
    exact forwardSweep_eq hvp hve (hvroom hroom c) (hvroom hroom' c)
  · rw [swept_lines]; exact hd
  · rw [swept_lines]; exact computePass_heat _ s
  · rw [swept_lines]; exact hi
  · rw [swept_lines]; exact hm
  · rw [swept_lines]; exact hs

/-- All that a pass may change put back as in `s` (R11, R77, R163). -/
def State.beforePass (s x : State) : State := { x with
  pu1 := s.pu1, pu2 := s.pu2, end1 := s.end1, end2 := s.end2
  heat := { x.heat with cycleRec := s.heat.cycleRec, grant := s.heat.grant }
  consist := { x.consist with leadLoss := s.consist.leadLoss } }

theorem beforePass_swept {e : End} {f : LineFrame} {s : State} (hal : s.alive e = true) :
    s.beforePass (swept e (passedFrame f s) (s.rateAt (.line e)) (passTaken e f s)) = s := by
  have hheat := computePass_heat (PassData.ofPayload f.body) s
  calc s.beforePass (swept e (passedFrame f s) (s.rateAt (.line e)) (passTaken e f s))
    _ = s.beforePass (passTaken e f s) := by rw [swept_lines]; rfl
    _ = { s.beforePass (heard (.line e) s) with heat := s.heat } := by
      rw [passTaken, handSource_eq, State.beforePass, hheat]; rfl
    _ = s := (congrArg (fun x : State => { s.beforePass x with heat := s.heat }) (heard_of_alive hal) :)

/-- Settles O44: the stage granted, the shortfall counted, or the pass as received. -/
theorem passKeepsTheBudget : Obligations.PassKeepsTheBudget := by
  intro e f s L h hal hps _ h32 he hrole hacc hl hroom hroom' hL
  have hexec := exec_heatPass h hal hps he hrole hacc hl hroom hroom'
  obtain ⟨hhop, hgood, hon, hback⟩ := swept_goesOn (e := e) (f := passedFrame f s) (s := s) (v := passTaken e f s)
    (port_passTaken e f s) (passTaken_alive e f s) (by simp) (by omega) hl
  have hpay : (sweptFrame (s.alive e.other) (passedFrame f s) s.consist.position).payload =
      (computePass (PassData.ofPayload f.body) s).1.payload := sweptFrame_payload _ _ _
  have hheat : (swept e (passedFrame f s) (s.rateAt (.line e)) (passTaken e f s)).heat =
      (computePass (PassData.ofPayload f.body) s).2.heat := by rw [swept_lines]; rfl
  obtain ⟨hcycle, hlevel, hdemand, hgranted, hshort⟩ := computePass_passedOn (PassData.ofPayload f.body) s
  refine ⟨_, _, hexec, sweptFrame_kind _ _ _, hgood, ?_, ?_, ?_, ?_, ?_, hhop, ?_, ?_, ?_, ?_, hon, hback,
    beforePass_swept hal⟩
  all_goals rw [hpay]
  · exact hcycle
  · exact hlevel
  · exact hdemand
  · exact hgranted
  · exact hshort
  all_goals rw [hheat, passData_payload_residual]
  · intro _ _ hdem hrec hbelow helig hcovers
    have hasks : (PassData.ofPayload f.body).Asks s := .of_held hdem (hL.trans_le helig) hrec (hbelow.trans hL.symm)
    obtain ⟨hgrant, hresidual, -⟩ := computePass_grants hL hasks hcovers
    exact ⟨hgrant, hresidual⟩
  · intro h1 hdem
    have hL1 : (PassData.ofPayload f.body).level.toNat = 1 := hL.trans h1
    exact ⟨computePass_begins hL1 hdem, fun hrec helig hcovers =>
      computePass_grants hL1 (.of_first hdem helig hL1 hrec) hcovers⟩
  · intro _ _ hdem helig hlacks hholds
    refine computePass_lacks hL ?_ hlacks
    rcases hholds with ⟨hrec, hbelow⟩ | ⟨h1, hrec⟩
    · exact .of_held hdem (hL.trans_le helig) hrec (hbelow.trans hL.symm)
    · exact .of_first hdem (h1 ▸ helig) (hL.trans h1) (.inl hrec)
  · exact computePass_changed hL

end Sys2Proof.Machine
end

section
/-! A level of a cycle sent outward, and the statement about the heating period and the pass timer (R157, R158, R160,
R162). -/

namespace Sys2Proof.Machine

/-! ### A level sent (R158) -/

/-- The pass of a level as the lead begins it: the residual it starts from, nothing granted and no shortfall (R158). -/
def State.levelPass (s : State) (c : Cycle) (w : Word) : PassData :=
  ⟨s.seq.number, byteOf c.level, w, 0, 0, byteOf c.demand⟩

/-- The HEAT PASS of a level, with the lead's own part reckoned as position 1 (R158). -/
def State.levelFrame (s : State) (c : Cycle) (w : Word) : Frame :=
  leadFrame .heatPass (computePass (s.levelPass c w) s).1.payload

/-- The lead with a level of a cycle under way (R158). -/
def levelBegun (c : Cycle) (w : Word) (s : State) : State := { s with
  heat := (computePass (s.levelPass c w) s).2.heat
  seq := { s.seq with cycle := some c, passTimer := some (s.now + s.itemN Item.passTimeout) } }

/-- The lead once a level has gone out of end `e`. -/
def levelSent (e : End) (c : Cycle) (w : Word) (s : State) : State :=
  (levelBegun c w s).enqueue (.line e) (queued (s.levelFrame c w))

section levelSent

variable {e : End} {c : Cycle} {w : Word} {s : State}

theorem computePass_eq_heat (d : PassData) (s : State) :
    computePass d s = ((computePass d s).1, { s with heat := (computePass d s).2.heat }) :=
  computePass_congr d rfl rfl rfl rfl

@[simp] theorem port_levelBegun (p : Port) : (levelBegun c w s).port p = s.port p := by
  rcases p with (_ | _) | _ <;> rfl

theorem levelSent_queues : Queues (.line e) [queued (s.levelFrame c w)] s (levelSent e c w s) :=
  (queues_enqueue _ _ _).of_port (port_levelBegun _)

/-- Only the end ports change as the frame joins its queue. -/
theorem levelSent_lines : levelSent e c w s = { levelBegun c w s with
    pu1 := (levelSent e c w s).pu1, pu2 := (levelSent e c w s).pu2 } := by
  cases e <;> rfl

theorem levelSent_withScratch (k : Scratch) :
    levelSent e c w (s.withScratch k) = (levelSent e c w s).withScratch k := by
  have hpass := computePass_congr (s := s) (t := s.withScratch k) (s.levelPass c w) rfl rfl rfl rfl
  have hsent : (s.withScratch k).levelFrame c w = s.levelFrame c w :=
    (congrArg (fun x => leadFrame .heatPass x.1.payload) hpass :)
  have hbegun : levelBegun c w (s.withScratch k) = (levelBegun c w s).withScratch k :=
    (congrArg (fun x => { s with
      heat := x.2.heat, scratch := k
      seq := { s.seq with cycle := some c, passTimer := some (s.now + s.itemN Item.passTimeout) } }) hpass :)
  rw [levelSent, hsent, hbegun, enqueue_withScratch, levelSent]

/-- At a lead with a neighbour the level goes out to it (R158). -/
theorem sendLevels_sent (fuel : Nat) (he : s.consist.leadEnd = some e.other) (ha : s.alive e = true)
    (hroom : s.roomFor (.line e) 1) : sendLevels (fuel + 1) c w s = levelSent e c w s := by
  have hout : s.outwardEnd = some e := by simpa using outwardEnd_of he
  have hroom' (h : Heat) (q : Sequencer) : { s with heat := h, seq := q }.roomFor (.line e) 1 := by
    cases e <;> exact hroom
  have hpass := computePass_eq_heat (s.levelPass c w) s
  unfold levelSent levelBegun State.levelFrame sendLevels
  unfold State.levelPass at *
  generalize computePass ⟨s.seq.number, byteOf c.level, w, 0, 0, byteOf c.demand⟩ s = p at hpass ⊢
  obtain ⟨d, t⟩ := p
  obtain ⟨h, rfl⟩ : ∃ h : Heat, t = { s with heat := h } := ⟨t.heat, congrArg Prod.snd hpass⟩
  refine (if_neg fun h => absurd (show s.endNode = true from h) (by rw [not_endNode_of he ha]; decide)).trans ?_
  show offerEnd s.outwardEnd _ _ _ = _
  rw [hout]
  exact offerEnd_room _ _ (hroom' _ _)

/-- The event ends with the level as sent: a lead's own pass moves neither doors nor energizer (R146, R163). -/
theorem finish_levelSent {u : State} (hr : s.atRest) (hk : KeepsUnits s u) :
    finish ((levelSent e c w u).withScratch ⟨s.teff, false, none⟩) = levelSent e c w u := by
  obtain ⟨hd, hh, hi, hm, hs⟩ := hk
  have hheat := computePass_heat (u.levelPass c w) u
  have hheat' : (levelSent e c w u).heat = (computePass (u.levelPass c w) u).2.heat := by rw [levelSent_lines]; rfl
  rw [← hheat', hh] at hheat
  have hdoors : (levelSent e c w u).doors = s.doors := by rw [levelSent_lines]; exact hd
  refine finish_unmoved hr hdoors (teff_congr_record hdoors hheat ?_ ?_) (congrArg (·.level) hheat :)
    (congrArg (·.raise) hheat :) ?_
  all_goals rw [levelSent_lines]
  · exact hi
  · exact hm
  · exact hs

end levelSent

/-! ### The heating period (R157) -/

/-- The lead with its heating period running again, `d` having been its end. -/
def periodRestarted (d : Nat) (s : State) : State :=
  { s.reach d with seq := { s.seq with periodTimer := some (max s.now d + 1000 * s.seq.period) } }

/-- … and the next cycle numbered. -/
def cycleNumbered (d : Nat) (s : State) : State :=
  { s.reach d with seq := { s.seq with
    periodTimer := some (max s.now d + 1000 * s.seq.period), number := s.seq.number + 1, reflected := none } }

theorem heatingPeriodExpired_inFlight {s : State} {c : Cycle} (h : s.seq.cycle = some c) :
    heatingPeriodExpired s = startHeatingPeriod s :=
  if_neg (show ¬ s.seq.cycle = none by rw [h]; simp)

theorem heatingPeriodExpired_starts {s : State} {d : Nat} (h : s.seq.cycle = none) :
    heatingPeriodExpired ((begin s).reach d) = sendLevels 4 ⟨1, s.seq.budget, s.seq.demand⟩ (wordItem s.seq.budget)
      ((cycleNumbered d s).withScratch ⟨s.teff, false, none⟩) := if_pos h

theorem exec_heatingPeriodExpiry_cycle {s : State} {d : Nat} {c : Cycle} (hlow : s.supplyLow = false) (hr : s.atRest)
    (hd : s.seq.periodTimer = some d) (hc : s.seq.cycle = some c) :
    exec .heatingPeriodExpiry s = .next (periodRestarted d s) := by
  show event (onExpiry s.seq.periodTimer heatingPeriodExpired) s = _
  rw [event_of _ hlow, hd, onExpiry_some, heatingPeriodExpired_inFlight (s := (begin s).reach d) hc]
  exact congrArg Host.Outcome.next (finish_unmoved (t := periodRestarted d s) hr rfl rfl rfl rfl rfl)

theorem exec_heatingPeriodExpiry_starts {e : End} {s : State} {d : Nat} (hlow : s.supplyLow = false) (hr : s.atRest)
    (hd : s.seq.periodTimer = some d) (hc : s.seq.cycle = none) (he : s.consist.leadEnd = some e.other)
    (ha : s.alive e = true) (hroom : s.roomFor (.line e) 1) : exec .heatingPeriodExpiry s =
      .next (levelSent e ⟨1, s.seq.budget, s.seq.demand⟩ (wordItem s.seq.budget) (cycleNumbered d s)) := by
  show event (onExpiry s.seq.periodTimer heatingPeriodExpired) s = _
  rw [event_of _ hlow, hd, onExpiry_some, heatingPeriodExpired_starts hc,
    sendLevels_sent (s := (cycleNumbered d s).withScratch ⟨s.teff, false, none⟩) 3 he (by cases e <;> exact ha)
      (by cases e <;> exact hroom), levelSent_withScratch]
  exact congrArg Host.Outcome.next (finish_levelSent (u := cycleNumbered d s) hr ⟨rfl, rfl, rfl, rfl, rfl⟩)

/-! ### The pass timer (R160, R162) -/

theorem exec_passTimeout {s : State} {d : Nat} {c : Cycle} (hlow : s.supplyLow = false) (hr : s.atRest)
    (hd : s.seq.passTimer = some d) (hc : s.seq.cycle = some c) :
    exec .passTimeout s = .next (endCycle .timeout c s.reflectedOrZero (s.reach d)) := by
  show event (onExpiry s.seq.passTimer passTimedOut) s = _
  have hout : passTimedOut ((begin s).reach d) = endCycle .timeout c s.reflectedOrZero ((begin s).reach d) := by
    unfold passTimedOut
    rw [show ((begin s).reach d).seq.cycle = some c from hc]
    rfl
  rw [event_of _ hlow, hd, onExpiry_some, hout]
  exact congrArg Host.Outcome.next
    (finish_unmoved (t := endCycle .timeout c s.reflectedOrZero (s.reach d)) hr rfl rfl rfl rfl rfl)

/-- Settles O46: the period's expiry with a cycle in flight and with none, and the pass timer's. -/
theorem cyclesStartAndTimeOut : Obligations.CyclesStartAndTimeOut := by
  refine ⟨fun s d c hlow hr hd hc => exec_heatingPeriodExpiry_cycle hlow hr hd hc,
    fun s d e hlow hr hd hc _ he ha hroom => ?_, fun s d c hlow hr hd hc => exec_passTimeout hlow hr hd hc⟩
  have hexec := exec_heatingPeriodExpiry_starts hlow hr hd hc he ha hroom
  have hport (p : Port) : (cycleNumbered d s).port p = s.port p := by rcases p with (_ | _) | _ <;> rfl
  obtain ⟨hcycle, hlevel, hdemand, -, -⟩ := computePass_passedOn
    ((cycleNumbered d s).levelPass ⟨1, s.seq.budget, s.seq.demand⟩ (wordItem s.seq.budget)) (cycleNumbered d s)
  have hheat := computePass_heat
    ((cycleNumbered d s).levelPass ⟨1, s.seq.budget, s.seq.demand⟩ (wordItem s.seq.budget)) (cycleNumbered d s)
  refine ⟨_, _, hexec, ?_, levelSent_queues.of_port (hport _), rfl, hcycle, hlevel, hdemand, mkFrame_hop _ _ _ _ _ _ _,
    leadFrame_checkGood _ _, ?_, ?_, ?_, ?_⟩
  all_goals rw [levelSent_lines]
  · rfl
  · exact (congrArg Heat.target hheat :)
  · exact (congrArg Heat.level hheat :)
  · rfl
  · rfl

end Sys2Proof.Machine
end

section
/-! The statement about a reflected HEAT PASS at the lead (R158, R159, R162, R168, R169, R171). -/

namespace Sys2Proof.Machine

/-! ### What a reflected pass comes to (R159) -/

/-- The fields of a reflected pass that the sequencer keeps. -/
def PassData.reflected (d : PassData) : Reflected := ⟨d.residual, d.granted, d.shortfall⟩

/-- The lead with the reflected pass of its current level taken (R159). -/
def passReturned (d : PassData) (s : State) : State :=
  { s with seq := { s.seq with passTimer := none, reflected := some d.reflected } }

section

variable {e : End} {c : Cycle} {d : PassData} {s : State}

theorem lastPass_iff {f : Reflected} :
    lastPass c f = true ↔ f.shortfall ≠ 0 ∨ f.granted = 0 ∨ c.level = 4 := by
  simp [lastPass, or_assoc]

theorem takeReflectedPass_stray (hc : s.seq.cycle = some c) (h : d.cycle ≠ s.seq.number ∨ d.level.toNat ≠ c.level) :
    takeReflectedPass d s = s := by
  unfold takeReflectedPass
  rw [hc]
  exact if_neg fun hn => h.elim (· hn.1) (· hn.2)

theorem takeReflectedPass_current (hc : s.seq.cycle = some c) (hn : d.cycle = s.seq.number)
    (hl : d.level.toNat = c.level) : takeReflectedPass d s =
      if lastPass c d.reflected = true then completeCycle c d.reflected (passReturned d s)
      else sendLevels 4 { c with level := c.level + 1 } d.residual (passReturned d s) := by
  unfold takeReflectedPass
  rw [hc]
  exact if_pos ⟨hn, hl⟩

/-! ### The cycle completed (R159, R169, R171) -/

/-- The HEAT SET that closes the cycle in flight (R159). -/
def State.closingSet (s : State) : HeatSetData := ⟨s.seq.number, s.item Item.stagger⟩

/-- The lead with the HEAT SET in the queue of end `e`. -/
def heatSetQueued (e : End) (s : State) : State :=
  s.enqueue (.line e) (queued (leadFrame .heatSet s.closingSet.payload))

/-- At a lead with a neighbour the HEAT SET goes out, the lead's own unit takes it, and the cycle ends (R159, R169). -/
theorem completeCycle_sent {f : Reflected} (he : s.consist.leadEnd = some e.other) (ha : s.alive e = true)
    (hroom : s.roomFor (.line e) 1) :
    completeCycle c f s = endCycle .complete c f (takeHeatSet s.closingSet (heatSetQueued e s)) := by
  have hout : s.outwardEnd = some e := by simpa using outwardEnd_of he
  have hsent : originate .heatSet s.closingSet.payload s = heatSetQueued e s := by
    rw [originate, if_neg (by rw [not_endNode_of he ha]; decide), hout]
    exact offerEnd_room _ _ hroom
  rw [← hsent]; rfl

end

/-! ### The command -/

/-- It is handed to the sequencer in the event of its arrival. -/
theorem exec_reflectedHeatPass {e : End} {f : LineFrame} {s : State} (h : Heard (.line e) (frameOf f .heatPass []) s)
    (hp : s.holdsPosition = true) (h1 : s.consist.position = 1) (hrole : s.lead.role = true)
    (he : s.consist.leadEnd = some e.other) (hacc : acceptedOnEnd (frameOf f .heatPass []) = true)
    (hl : (frameOf f .heatPass []).leadward = true) : exec (.reflectedHeatPass (.line e) f) s = .next (finish
      (takeReflectedPass (PassData.ofPayload f.body) ((heard (.line e) s).withScratch ⟨s.teff, false, none⟩))) := by
  rw [exec_heard rfl h (kind_ne_idle_of_accepted hacc),
    relay_consumed (s := (heard (.line e) s).withScratch ⟨s.teff, false, none⟩) ((heard_holdsPosition _ s).trans hp)
      ((heard_position _ s).trans h1) ((congrArg Lead.role (heard_lead _ s)).trans hrole) ((heard_leadEnd _ s).trans he)
      hacc (kind_ne_call_of_leadward hacc hl) hl]
  rfl

section

variable (e : End) (c : Cycle) (d : PassData) (u : State)

/-- A cycle ended COMPLETE, and the event with it (R159, R162). -/
def cycleClosed (f : Reflected) (s : State) : State := (endCycle .complete c f s).withScratch Scratch.rest

/-- The lead with a HEAT SET in the queue, before its own unit takes it, in an event that began at the effective target
`te`. -/
def setGoneOut (te : Nat) : State := heatSetQueued e ((passReturned d u).withScratch ⟨te, false, none⟩)

/-- The lead once it has ended its cycle. -/
def cycleCompleted (te : Nat) : State :=
  cycleClosed c d.reflected (takeHeatSet u.closingSet (setGoneOut e d u te))

/-- The lead once it has sent the next level. -/
def nextLevelSent : State := levelSent e { c with level := c.level + 1 } d.residual (passReturned d u)

end

section

variable {e : End} {c : Cycle} {d : PassData} {s u : State}

theorem finish_completes (hr : s.atRest) (hk : KeepsUnits s u) (hc : u.seq.cycle = some c) (hn : d.cycle = u.seq.number)
    (hl : d.level.toNat = c.level) (hlast : lastPass c d.reflected = true) (he : u.consist.leadEnd = some e.other)
    (ha : u.alive e = true) (hroom : u.roomFor (.line e) 1) :
    finish (takeReflectedPass d (u.withScratch ⟨s.teff, false, none⟩)) = cycleCompleted e c d u s.teff := by
  rw [takeReflectedPass_current (s := u.withScratch ⟨s.teff, false, none⟩) hc hn hl, if_pos hlast]
  show finish (completeCycle c d.reflected ((passReturned d u).withScratch ⟨s.teff, false, none⟩)) = _
  rw [completeCycle_sent (s := (passReturned d u).withScratch ⟨s.teff, false, none⟩) he (by cases e <;> exact ha)
    (by cases e <;> exact hroom)]
  refine finish_heatSet (d := u.closingSet) (u := setGoneOut e d u s.teff) hr ?_ ?_ ⟨rfl, rfl, rfl, rfl, rfl⟩
  · rw [setGoneOut, heatSetQueued, enqueue_doors]; exact hk.doors
  · rw [setGoneOut, heatSetQueued, enqueue_scratch]; rfl

theorem finish_sendsNext (hr : s.atRest) (hk : KeepsUnits s u) (hc : u.seq.cycle = some c) (hn : d.cycle = u.seq.number)
    (hl : d.level.toNat = c.level) (hlast : ¬ lastPass c d.reflected = true) (he : u.consist.leadEnd = some e.other)
    (ha : u.alive e = true) (hroom : u.roomFor (.line e) 1) :
    finish (takeReflectedPass d (u.withScratch ⟨s.teff, false, none⟩)) = nextLevelSent e c d u := by
  rw [takeReflectedPass_current (s := u.withScratch ⟨s.teff, false, none⟩) hc hn hl, if_neg hlast]
  show finish (sendLevels 4 _ _ ((passReturned d u).withScratch ⟨s.teff, false, none⟩)) = _
  rw [sendLevels_sent (s := (passReturned d u).withScratch ⟨s.teff, false, none⟩) 3 he (by cases e <;> exact ha)
    (by cases e <;> exact hroom), levelSent_withScratch]
  exact finish_levelSent (u := passReturned d u) hr hk

/-! ### The lead after its cycle (R159, R169) -/

@[simp] theorem port_cycleClosed (f : Reflected) (s : State) (p : Port) : (cycleClosed c f s).port p = s.port p := by
  rcases p with (_ | _) | _ <;> rfl

@[simp] theorem cycleClosed_heat (f : Reflected) (s : State) : (cycleClosed c f s).heat = s.heat := rfl

@[simp] theorem cycleClosed_teff (f : Reflected) (s : State) : (cycleClosed c f s).teff = s.teff := rfl

@[simp] theorem cycleClosed_seq (f : Reflected) (s : State) : (cycleClosed c f s).seq = { s.seq with
    cycle := none, passTimer := none, reflected := none, last := ⟨s.seq.number, .complete, c.level, f⟩ } := rfl

theorem setGoneOut_queues (te : Nat) : Queues (.line e) [queued (leadFrame .heatSet u.closingSet.payload)] u
    (setGoneOut e d u te) :=
  (queues_enqueue _ _ _).of_port (by cases e <;> rfl)

/-- Only the end ports change as the HEAT SET joins its queue. -/
theorem setGoneOut_lines (te : Nat) : setGoneOut e d u te = { passReturned d u with
    pu1 := (setGoneOut e d u te).pu1, pu2 := (setGoneOut e d u te).pu2, scratch := ⟨te, false, none⟩ } := by
  cases e <;> rfl

theorem cycleCompleted_queues (te : Nat) : Queues (.line e) [queued (leadFrame .heatSet u.closingSet.payload)] u
    (cycleCompleted e c d u te) := by
  rw [Queues, cycleCompleted, port_cycleClosed, takeHeatSet_port]
  exact setGoneOut_queues te

/-- The cycle in flight has ended COMPLETE, with the reflected fields as its record (R162). -/
theorem cycleCompleted_seq (te : Nat) : (cycleCompleted e c d u te).seq = { u.seq with
    cycle := none, passTimer := none, reflected := none
    last := ⟨u.seq.number, .complete, c.level, d.reflected⟩ } := by
  have hseq : (takeHeatSet u.closingSet (setGoneOut e d u te)).seq = (setGoneOut e d u te).seq :=
    (congrArg State.seq (takeHeatSet_rest u.closingSet (setGoneOut e d u te)) :)
  rw [cycleCompleted, cycleClosed_seq, hseq, setGoneOut_lines]
  rfl

/-- The lead's own unit has taken the HEAT SET (R159). -/
theorem cycleCompleted_taken (te : Nat) :
    HeatSetTaken u.closingSet (setGoneOut e d u te) (cycleCompleted e c d u te) :=
  heatSetTaken_of (by rw [cycleCompleted, cycleClosed_heat]) (by rw [cycleCompleted, cycleClosed_teff])

theorem setGoneOut_heatSetTarget (te : Nat) (cycle : Byte) :
    (setGoneOut e d u te).heatSetTarget cycle = u.heatSetTarget cycle := by
  rw [setGoneOut_lines]; rfl

theorem setGoneOut_now (te : Nat) : (setGoneOut e d u te).now = u.now := by rw [setGoneOut_lines]; rfl

theorem setGoneOut_itemN (te n : Nat) : (setGoneOut e d u te).itemN n = u.itemN n := by rw [setGoneOut_lines]; rfl

/-- All that the sequencer, the heating unit and the line may change put back as in `s`. -/
def State.beforeReflected (s x : State) : State := { x with
  pu1 := s.pu1, pu2 := s.pu2, end1 := s.end1, end2 := s.end2, heat := s.heat, seq := s.seq, scratch := Scratch.rest }

theorem beforeReflected_cycleClosed (f : Reflected) (x : State) :
    s.beforeReflected (cycleClosed c f x) = s.beforeReflected x := rfl

/-- Beside the end ports only the heating unit and the sequencer change. -/
theorem beforeReflected_cycleCompleted (te : Nat) :
    s.beforeReflected (cycleCompleted e c d u te) = s.beforeReflected u := by
  calc s.beforeReflected (cycleCompleted e c d u te)
    _ = s.beforeReflected (takeHeatSet u.closingSet (setGoneOut e d u te)) := beforeReflected_cycleClosed _ _
    _ = s.beforeReflected (setGoneOut e d u te) :=
      (congrArg s.beforeReflected (takeHeatSet_rest u.closingSet (setGoneOut e d u te)) :)
    _ = s.beforeReflected u := by rw [setGoneOut_lines]; rfl

/-! ### The next level (R158, R168) -/

/-- A pass beyond level 1 leaves the node and the pass as they were, or grants the stage (R163, R167). -/
theorem computePass_later {L : Nat} (hL : d.level.toNat = L) (h2 : 2 ≤ L) :
    ((computePass d s).2.heat = s.heat ∧ (computePass d s).1.residual = d.residual ∧
      (computePass d s).1.granted = d.granted) ∨
    ((computePass d s).2.heat = { s.heat with grant := L } ∧ s.heat.grant + 1 = L ∧
      (computePass d s).1.residual.toNat + s.scaledCurrent L = d.residual.toNat ∧
      (computePass d s).1.granted = satIncByte d.granted) := by
  subst hL
  have hne : d.level.toNat ≠ 1 := by omega
  rcases computePass_cases d s with ⟨ha, hc, e⟩ | ⟨-, -, e⟩ | ⟨-, e⟩ <;> rw [e]
  · have hrec : s.heat.cycleRec = some d.cycle := ha.reckoned.record.resolve_left hne
    refine .inr ⟨?_, by rw [← heldIn_same hrec]; exact ha.below, sub_wordItem_toNat hc, rfl⟩
    rw [State.withRecord, ← hrec]
  all_goals
    rw [recordBegun_of_ne_one hne]
    exact .inl ⟨rfl, rfl, rfl⟩

/-- The pass of the next level as the lead sends it, its own part reckoned. -/
def nextPass (c : Cycle) (d : PassData) (u : State) : PassData :=
  (computePass ((passReturned d u).levelPass { c with level := c.level + 1 } d.residual) (passReturned d u)).1

theorem nextLevelSent_queues :
    Queues (.line e) [queued (leadFrame .heatPass (nextPass c d u).payload)] u (nextLevelSent e c d u) :=
  levelSent_queues.of_port (by cases e <;> rfl)

theorem nextLevelSent_seq : (nextLevelSent e c d u).seq = { u.seq with
    cycle := some { c with level := c.level + 1 }, passTimer := some (u.now + u.itemN Item.passTimeout)
    reflected := some d.reflected } := by
  rw [nextLevelSent, levelSent_lines]; rfl

/-- Beside the end ports only the heating unit and the sequencer change. -/
theorem nextLevelSent_rest : nextLevelSent e c d u = { u with
    pu1 := (nextLevelSent e c d u).pu1, pu2 := (nextLevelSent e c d u).pu2
    heat := (nextLevelSent e c d u).heat, seq := (nextLevelSent e c d u).seq } := by
  rw [nextLevelSent, levelSent_lines]; rfl

theorem nextPass_passedOn : (nextPass c d u).cycle = u.seq.number ∧ (nextPass c d u).level = byteOf (c.level + 1) ∧
    (nextPass c d u).demand = byteOf c.demand := by
  obtain ⟨hcycle, hlevel, hdemand, -, -⟩ := computePass_passedOn
    ((passReturned d u).levelPass { c with level := c.level + 1 } d.residual) (passReturned d u)
  exact ⟨hcycle, hlevel, hdemand⟩

/-- The next level starts from the reflected residual, less what the lead's own stage takes of it (R158, R168). -/
theorem nextLevelSent_cases (h1 : 1 ≤ c.level) (h4 : c.level < 4) :
    ((nextLevelSent e c d u).heat = u.heat ∧ (nextPass c d u).residual = d.residual ∧ (nextPass c d u).granted = 0) ∨
    ((nextLevelSent e c d u).heat = { u.heat with grant := c.level + 1 } ∧ u.heat.grant + 1 = c.level + 1 ∧
      (nextPass c d u).residual.toNat + u.scaledCurrent (c.level + 1) = d.residual.toNat ∧
      (nextPass c d u).granted = 1) := by
  have hheat : (nextLevelSent e c d u).heat = (computePass
      ((passReturned d u).levelPass { c with level := c.level + 1 } d.residual) (passReturned d u)).2.heat := by
    rw [nextLevelSent, levelSent_lines]; rfl
  have hlevel : ((passReturned d u).levelPass { c with level := c.level + 1 } d.residual).level.toNat = c.level + 1 :=
    byteOf_toNat (n := c.level + 1) (by omega)
  rw [hheat]
  exact computePass_later hlevel (by omega)

end

/-- Settles O45: the cycle completed, the next level sent, and a stray pass disregarded. -/
theorem lastReflectedPassEndsCycle : Obligations.LastReflectedPassEndsCycle := by
  intro e f s c h hal hp h1 hrole he hacc hl hc
  have hexec := exec_reflectedHeatPass h hp h1 hrole he hacc hl
  have hu := heard_of_alive hal
  have hk := heard_keepsUnits (.line e) s
  have hseq := heard_seq (.line e) s
  have hup := heard_holdsPosition (.line e) s
  have hnow := heard_now (.line e) s
  have hlead := (heard_leadEnd (.line e) s).trans he
  have ha := heard_alive_self e s
  have hroomHeard := (heard_roomFor (.line e) (.line e) s 1).2
  have hscratch := heard_scratch (.line e) s
  generalize heard (.line e) s = u at *
  have huc : u.seq.cycle = some c := by rw [hseq, hc]
  refine ⟨fun hn hlev hlast hroom => ?_, fun hn hlev hshort hgranted hone hfour hroom => ?_, fun hstray => ?_⟩
  · rw [finish_completes (d := PassData.ofPayload f.body) h.atRest hk huc (by rw [hseq]; exact hn) hlev
      (lastPass_iff.2 hlast) hlead ha (hroomHeard hroom)] at hexec
    have htaken := cycleCompleted_taken (e := e) (c := c) (d := PassData.ofPayload f.body) (u := u) s.teff
    refine ⟨_, _, hexec, ?_, cycleCompleted_queues _, rfl, mkFrame_hop _ _ _ _ _ _ _, rfl, ?_, leadFrame_checkGood _ _,
      ?_, ?_, ?_⟩
    · rw [cycleCompleted_seq, hseq]; rfl
    · show u.seq.number :: wordBytes (u.items.getD _ _) = _
      rw [hseq, hk.items]; rfl
    · rw [htaken.target, setGoneOut_heatSetTarget, State.heatSetTarget, hk.heat]
      refine if_congr ?_ rfl rfl
      rw [hup, ← hseq]
      exact and_iff_right hp
    · rw [htaken.holdover, setGoneOut_now, setGoneOut_itemN, hnow, hk.itemN]
    · calc s.beforeReflected (cycleCompleted e c (PassData.ofPayload f.body) u s.teff)
        _ = s.beforeReflected u := beforeReflected_cycleCompleted _
        _ = s.beforeReflected s := (congrArg s.beforeReflected hu :)
        _ = s := by rw [State.beforeReflected, ← h.atRest.1]
  · rw [finish_sendsNext (d := PassData.ofPayload f.body) h.atRest hk huc (by rw [hseq]; exact hn) hlev
      (fun hlast => (lastPass_iff.1 hlast).elim (· hshort) (·.elim hgranted hfour.ne)) hlead ha
      (hroomHeard hroom)] at hexec
    obtain ⟨hcycle, hlevel, hdemand⟩ := nextPass_passedOn (c := c) (d := PassData.ofPayload f.body) (u := u)
    have hcases := nextLevelSent_cases (e := e) (d := PassData.ofPayload f.body) (u := u) hone hfour
    rw [hk.heat, scaledCurrent_congr hk.heat hk.items] at hcases
    refine ⟨_, _, hexec, ?_, nextLevelSent_queues, rfl, mkFrame_hop _ _ _ _ _ _ _, rfl, rfl,
      mkFrame_leadward _ _ _ _ _ _ _, leadFrame_checkGood _ _, hcycle.trans (by rw [hseq]), hlevel, hdemand,
      fun hsame => ?_, fun hmoved => ?_, ?_⟩
    · rw [nextLevelSent_seq, hseq, hnow, hk.itemN]; rfl
    · rcases hcases with ⟨-, hresidual, hcount⟩ | ⟨hgrant, hbelow, -, -⟩
      · exact ⟨(passData_payload_residual _).trans hresidual, hcount⟩
      · rw [hgrant] at hsame
        exact absurd (hbelow.trans hsame) (Nat.succ_ne_self _)
    · rcases hcases with ⟨hkept, -, -⟩ | ⟨hgrant, -, hresidual, hcount⟩
      · exact absurd (congrArg Heat.grant hkept) hmoved
      · refine ⟨congrArg Heat.grant hgrant, hcount, ?_⟩
        exact (congrArg (·.toNat + _) (passData_payload_residual _)).trans hresidual
    · have hback : { (nextLevelSent e c (PassData.ofPayload f.body) u).heat with grant := s.heat.grant } = s.heat := by
        rcases hcases with ⟨hkept, -⟩ | ⟨hgrant, -⟩
        · rw [hkept]
        · rw [hgrant]
      rw [hback, nextLevelSent_rest]
      exact (congrArg (fun x : State => { x with heat := s.heat, seq := s.seq }) hu :)
  · rw [takeReflectedPass_stray (s := u.withScratch ⟨s.teff, false, none⟩) huc (by rw [← hseq] at hstray; exact hstray),
      finish_unmoved h.atRest hk.doors hk.teff (congrArg Heat.level hk.heat) (congrArg Heat.raise hk.heat) hscratch]
      at hexec
    exact hexec

end Sys2Proof.Machine
end

section
/-! The statements about faulty requests and about STORE (R181, R187, R188). -/

namespace Sys2Proof.Machine

/-! ### A request refused by a common test (R181) -/

/-- A REQUEST of the cab port with destination LOCAL is the node's own, lead or not (R38, R40). -/
theorem relay_localRequest {f : Frame} (hk : f.kind = .request) (hdest : f.dest = 0) (r : LineRate) (s : State) :
    relay .cab f r s = respond .cab f.payload s := by
  cases hrole : s.lead.role <;> simp [relay, hrole, relayCabLead, relayCabOther, hk, hdest]

section tests

variable {src : Source} {l : List Byte} {s : State}

theorem respond_unknownCode (hk : knownCode (byteAt l 0) = false) :
    respond src l s = refuse src (byteAt l 0) .badEntry s := if_pos hk

theorem respond_resetPending (hk : knownCode (byteAt l 0) = true) (hr : s.mgmt.state = .resetPending) :
    respond src l s = refuse src (byteAt l 0) .busy s := by
  simp [respond, hk, hr]

theorem respond_wrongLength (hk : knownCode (byteAt l 0) = true) (hr : s.mgmt.state ≠ .resetPending)
    (hl : requestLength l = false) : respond src l s = refuse src (byteAt l 0) .badEntry s := by
  simp [respond, hk, hr, hl]

end tests

/-- A request that the responder refuses brings its REPLY alone; the tests read the responder's state and no other part of
the node. -/
theorem exec_refused {i : Instr} {f : Frame} {s : State} {code : Byte} {st : Status}
    (ha : i.arriving = some (.cab, f)) (h : Heard .cab f s) (hk : f.kind = .request) (hdest : f.dest = 0)
    (hroom : s.roomFor .cab 1)
    (hrefuse : ∀ u : State, u.mgmt = s.mgmt → respond .cab f.payload u = refuse .cab code st u) :
    ∃ t, exec i s = .next t ∧ OnlyReply code st [] s t := by
  refine ⟨_, exec_heard_keeping ha h (by rw [hk]; decide) (fun c => ?_) (enqueue_keepsUnits ..),
    onlyReply_replied code st []⟩
  rw [relay_localRequest hk hdest, hrefuse ((heard .cab s).withScratch c) (heard_mgmt .cab s)]
  exact reply_heard code st [] c hroom

/-- Settles O49: the three common tests in their order. -/
theorem faultyRequestsAreRefused : Obligations.FaultyRequestsAreRefused := by
  intro i f s ha h hk hdest hroom
  refine ⟨fun hcode => ?_, fun hcode hr => ?_, fun hcode hr hl => ?_⟩
  · exact exec_refused ha h hk hdest hroom fun _ _ => respond_unknownCode hcode
  · exact exec_refused ha h hk hdest hroom fun u hu => respond_resetPending hcode (by rw [hu, hr])
  · exact exec_refused ha h hk hdest hroom fun u hu => respond_wrongLength hcode (by rwa [hu]) hl

/-! ### STORE (R188) -/

/-- The node as a STORE of the cab port leaves it: the working configuration taken, the REPLY owed, 80 ms to run. -/
def storeBegun (s : State) : State := { s with mgmt := { s.mgmt with
  state := .storePending, owed := some ⟨.cab, s.consist.position⟩, store := .storing
  storeTimer := some (s.now + 80), storing := some s.working } }

theorem answerStore_busy {src : Source} {s : State} (h : s.mgmt.store = .storing) :
    answerStore src s = refuse src 7 .busy s := if_pos h

theorem answerStore_begins {s : State} (h : s.mgmt.store ≠ .storing) : answerStore .cab s = storeBegun s := if_neg h

/-- The start of a store moves nothing that the end of an event goes by. -/
theorem storeBegun_keepsUnits (s : State) : KeepsUnits s (storeBegun s) := ⟨rfl, rfl, rfl, rfl, rfl⟩

/-- What a store takes is not moved by the frame that asked for it. -/
theorem storeBegun_heard (s : State) : storeBegun (heard .cab s) = { heard .cab s with mgmt := { s.mgmt with
    state := .storePending, owed := some ⟨.cab, s.consist.position⟩, store := .storing
    storeTimer := some (s.now + 80), storing := some ⟨s.items, s.orders, s.heat.stages⟩ } } := by
  rw [heard_cab_eq]; rfl

section store

variable {f : LineFrame} {s : State}

theorem exec_store_busy (h : LocalRequest [7] f s) (hb : f.body = []) (hst : s.mgmt.store = .storing) :
    ∃ t, exec (.store .cab f) s = .next t ∧ OnlyReply 7 .busy [] s t :=
  exec_answeredOnly rfl h (by rw [hb]; rfl) (by rw [hb]; rfl) fun c => by
    rw [hb]; exact answerStore_busy (by rwa [store_heardCab])

theorem exec_store_begins (h : LocalRequest [7] f s) (hb : f.body = []) (hst : s.mgmt.store ≠ .storing) :
    exec (.store .cab f) s = .next (storeBegun (heard .cab s)) := by
  have hunits := (heard_keepsUnits .cab s).trans (storeBegun_keepsUnits _)
  obtain ⟨hdoors, hheat, -, -, hscratch⟩ := id hunits
  have hexecute (c : Scratch) : execute .cab ([7] ++ f.body) ((heard .cab s).withScratch c) =
      (storeBegun (heard .cab s)).withScratch c := by
    rw [hb]; exact answerStore_begins (by rwa [store_heardCab])
  rw [exec_localRequest rfl h (by rw [hb]; rfl) (by rw [hb]; rfl), hexecute,
    finish_unmoved h.atRest hdoors hunits.teff (by rw [hheat]) (by rw [hheat]) hscratch]

end store

/-! ### The store timer (R188) -/

/-- The node at the end of a store, before its REPLY is offered. -/
def storeEnded (s : State) : State := raise .storeDone { s with mgmt := { s.mgmt with
  state := if s.mgmt.state = .resetPending then .resetPending else .ready
  owed := none, store := .valid, storeTimer := none, image := s.mgmt.storing, storing := none } }

/-- The REPLY goes to the port and with the source kept from the STORE. -/
theorem storeDone_pays {s : State} {o : OwedReply} (ho : s.mgmt.owed = some o) (hroom : s.roomFor o.port 1) :
    storeDone s = (storeEnded s).enqueue o.port (queued (replyFrame o.source 7 .done [])) := by
  unfold storeDone payOwed
  simp only [raise_mgmt, ho]
  exact offer_room _ _ hroom

theorem storeEnded_port (s : State) (p : Port) : (storeEnded s).port p = s.port p := by
  rcases p with (_ | _) | _ <;> rfl

/-- Settles O53: a STORE taken or refused, and the end of the store. -/
theorem storesTakeEightyMilliseconds : Obligations.StoresTakeEightyMilliseconds := by
  refine ⟨fun f s h hb => ⟨exec_store_busy h hb, fun hst => ?_⟩, fun s d o im hlow hd ho him hroom => ?_⟩
  · rw [exec_store_begins h hb hst, storeBegun_heard]
  · set u := storeEnded (s.reach d)
    set t := u.enqueue o.port (queued (replyFrame o.source 7 .done [])) with ht
    have hroom' : (s.reach d).roomFor o.port 1 := by unfold State.roomFor; rwa [port_reach]
    have hexec : exec .storeTimerExpiry s = .next t := by
      show plainEvent (onExpiry s.mgmt.storeTimer storeDone) s = _
      rw [plainEvent_of _ hlow, hd, onExpiry_some, storeDone_pays (s := s.reach d) ho hroom']
    have hport (p : Port) : u.port p = s.port p := (storeEnded_port _ p).trans (port_reach s d p)
    have hmgmt : t.mgmt = u.mgmt := setPort_mgmt ..
    have hqueues : Queues o.port [queued (replyFrame o.source 7 .done [])] u t := queues_enqueue ..
    have hrest : OnlyPorts u t := onlyPorts_enqueue ..
    refine ⟨t, hexec, (congrArg (·.image) hmgmt).trans him, congrArg (·.store) hmgmt, congrArg (·.storeTimer) hmgmt,
      congrArg (·.owed) hmgmt, congrArg (·.state) hmgmt, (present_setPort ..).trans (present_raise ..), ?_,
      fun q hq => ?_, ?_⟩
    · rwa [Queues, hport] at hqueues
    · rw [ht, port_enqueue_ne _ _ _ hq, hport]
    · exact (congrArg (fun x : State => { x with now := s.now, events := s.events, mgmt := s.mgmt }) hrest :)

end Sys2Proof.Machine
end

section
/-! The statements about the state after power-on: a state that a SUPPLY reset has left (R188, R189; log 2, 3). -/

namespace Sys2Proof.Machine

/-- The power-on state is what a SUPPLY reset leaves of a node whose store holds no image, with its clock, its identity and
the levels at its pins; so whatever holds after any reset holds at power-on. -/
theorem resetNode_reset : resetNode .supply State.reset = State.reset := by decide +kernel

theorem reset_afterReset : AfterReset .supply State.reset State.reset ∧ TimersFromEnd State.reset := by
  have h := resetNode_afterReset .supply (rfl : State.reset.resetView = State.reset.resetView)
  rwa [resetNode_reset] at h

/-- With the factory defaults both sides have leaves, and both channels are in the settling hold (R108). -/
theorem reset_channel (c : Side) : State.reset.channel c = ⟨.fault, true, none, 0, .settling⟩ := by
  cases c <;> rfl

/-- A channel in FAULT keeps the loop open (R106, R107). -/
theorem reset_output (o : Output) : State.reset.output o = false := by
  obtain ⟨hdoors, hheat⟩ := outputs_afterReset reset_afterReset.1 rfl
  cases o with
  | release c => exact (hdoors c).1
  | close c => exact (hdoors c).2
  | heat n => exact hheat n
  | tone => rfl
  | loop => rfl

/-- Settles O3: what every reset leaves, with the factory defaults in the place of an image. -/
theorem powerOnState : Obligations.PowerOnState := by
  obtain ⟨⟨-, hport, halive, -, -, -, -, -, -, -, -, -, -, hinput, hpresent, -⟩, hidle, -⟩ := reset_afterReset
  have hsettled (i : Input) : State.reset.settled i = false := congrArg Option.isSome (hinput i).1
  have hevents (ev : Event) : State.reset.present ev = (ev == .reset || ev == .storeInvalid) :=
    (hpresent ev).trans (congrArg _ (Bool.and_true _))
  -- each clause closed by rfl is a field of the state
  exact ⟨hport, halive, hidle, rfl, rfl, rfl, rfl, rfl, rfl, rfl, rfl, rfl, rfl, rfl, rfl, rfl, rfl, rfl,
    reset_channel, reset_output, rfl, rfl, rfl, rfl, rfl, rfl, hsettled, hevents, rfl, rfl, rfl⟩

/-- Settles O4: each invariant holds after any reset. -/
theorem resetMeetsInvariants : Obligations.ResetMeetsInvariants := by
  unfold Obligations.ResetMeetsInvariants
  rw [← resetNode_reset]
  obtain ⟨hplace, hlead⟩ := (good_iff _).1 (resetNode_good .supply State.reset)
  obtain ⟨hdoor, hleaf⟩ := (doorsGood_iff True _).1 (resetNode_doorsGood .supply State.reset)
  exact ⟨resetNode_atRest .supply _, hplace, resetNode_queueInv .supply _, hdoor, hleaf trivial, hlead⟩

end Sys2Proof.Machine
end

section
/-! The statements about one step: the command at the front of the queue, and the timebase of an empty queue (file 00,
Events and order; Time; log 5). -/

namespace Sys2Proof.Machine

/-! ### The timebase -/

theorem tick_noneDue {s : State} (h : s.due = []) : tick s = { s with now := s.now + 1 } := by
  unfold tick; rw [h]

theorem tick_firstDue {s : State} {c : Instr} {rest : List Instr} (h : s.due = c :: rest) :
    tick s = { s with pending := [c] } := by
  unfold tick; rw [h]

/-! ### One step, by what the queue holds -/

theorem step_pending_cons {s : State} {c : Instr} {rest : List Instr} (h : s.pending = c :: rest) :
    step s = exec c { s with pending := rest } := by
  unfold step; rw [h]

theorem step_pending_nil {s : State} (h : s.pending = []) : step s = .next (tick s) := by
  unfold step; rw [h]

/-- Settles O1: the queue of the state is `c :: rest` by construction, so its step is that of a queue with a front. -/
theorem stepRunsFrontCommand : Obligations.StepRunsFrontCommand := by
  intro c rest s
  exact step_pending_cons (s := { s with pending := c :: rest }) rfl

/-- Settles O2: an empty queue leaves the step to the timebase, which goes by the events that are due. -/
theorem emptyQueueTicks : Obligations.EmptyQueueTicks := by
  intro s hempty
  rw [step_pending_nil hempty]
  refine ⟨fun hnone => ?_, fun c rest hfirst => ?_⟩
  · rw [tick_noneDue hnone]
  · rw [tick_firstDue hfirst]

end Sys2Proof.Machine
end
